-- ==== Sys2Proof/Word.lean ====
section
/-! DEFINITION. The byte and the small vocabularies of the spec (00_scope.md R9, R10, R14; 10_state.md R21 to R30): every
enumeration an operand, a register or an event is made of. No behaviour is defined here. -/

namespace Sys2Proof

/-- A byte: 8 bits, bit 7 the most significant (R10). A frame-store cell is one byte too: `CELL_W` = 8 (R39, D4). -/
abbrev Byte := BitVec 8

/-- `PROFILE`: the requestable colour profiles (R24, D13). -/
inductive Profile where
  | black
  | red
  | yellow
  deriving DecidableEq, Repr

/-- The four LUT names (R25, R37); `redHt` is the spec's `red_ht`. -/
inductive LutName where
  | black
  | red
  | redHt
  | yellow
  deriving DecidableEq, Repr

/-- `ROT`: the rotation tag, table entries 0 and -90 (R23). It is never used as a number. -/
inductive Rot where
  | rot0
  | rotM90
  deriving DecidableEq, Repr

/-- The three colour indices WHITE = 0, BLACK = 1, ACCENT = 2 (R9, R14); the type of `BORDER` (R26). -/
inductive Color where
  | white
  | black
  | accent
  deriving DecidableEq, Repr

/-- The colour index as a frame-store cell value (R9). -/
def Color.cell : Color → Byte
  | .white => 0
  | .black => 1
  | .accent => 2

/-- The two abstract levels of the reset line (R12, D31). -/
inductive LineLevel where
  | inactive
  | active
  deriving DecidableEq, Repr

/-- The two abstract levels of the busy line, the spec's READY and BUSYLVL (R12, D31). -/
inductive BusyLevel where
  | ready
  | busy
  deriving DecidableEq, Repr

/-- Which of the two waits timed out (R213, R280 codes 4 and 5). -/
inductive TimeoutCause where
  | softReset
  | refresh
  deriving DecidableEq, Repr

/-- The ten sequencer states (R30, R200). -/
inductive SeqState where
  | uninitialized
  | resetting
  | softResetting
  | configuring
  | lutLoaded
  | ramWritten
  | triggered
  | busy
  | sleeping
  | error
  deriving DecidableEq, Repr

/-- The identity record, an operand of CONFIGURE (R14, R93, D50). -/
structure IdentityRecord where
  width : Nat
  height : Nat
  variantCode : Nat
  accentColorName : String
  deriving DecidableEq, Repr

/-- An index into the register ROM, 0 to 33 (R30, R38). -/
abbrev RomIndex := Fin 34

end Sys2Proof
end

