-- ==== Sys2Proof/Config.lean ====
section
/-! DEFINITION. The implementation parameters of 00_scope.md R8 as one record of plain data, so that a claim about every state
holds for every value of them; the opaque LUT bytes, of which nothing is known but their number (R37, N7). The values
themselves (the document's own and the marked defaults) are in Sys2Proof/Machine/Defaults.lean. -/

namespace Sys2Proof

/-- One entry of `RES_TABLE`: (W, H) to (COLS, ROWS, ROT) (R36). -/
structure ResEntry where
  w : Nat
  h : Nat
  cols : Nat
  rows : Nat
  rot : Rot
  deriving DecidableEq, Repr

/-- One LUT: 35 bytes of phase voltages (7 phases of 5 steps) and then 35 bytes of timing (7 phases of 5 fields) (R37). -/
structure LutTable where
  voltage : Vector Byte 35
  timing : Vector Byte 35
  deriving DecidableEq, Repr

/-- The four tables of `ROM_LUT` (R37). -/
structure LutRom where
  black : LutTable
  red : LutTable
  redHt : LutTable
  yellow : LutTable
  deriving DecidableEq, Repr

/-- The eighteen opcodes the document does not state (R96, GK rows). The other three are constants of Machine/Defaults.lean. -/
structure OpcodeParams where
  gateSet : Byte
  gateVolt : Byte
  srcVolt : Byte
  dataEntry : Byte
  swreset : Byte
  activate : Byte
  updCtrl : Byte
  ramA : Byte
  ramB : Byte
  vcom : Byte
  lut : Byte
  dummy : Byte
  gateWidth : Byte
  border : Byte
  ramX : Byte
  ramY : Byte
  xptr : Byte
  yptr : Byte
  deriving DecidableEq, Repr

/-- The fourteen payload constants the document does not state (R97, GK rows). A source-voltage constant has three bytes (D16). -/
structure PayloadParams where
  gateVolt : Byte
  srcVolt : Vector Byte 3
  dummy : Byte
  gateWidth : Byte
  dataEntry : Byte
  vcom : Byte
  borderDefault : Byte
  borderBlack : Byte
  borderRed : Byte
  borderYellow : Byte
  borderWhite : Byte
  srcVoltYellow : Vector Byte 3
  srcVoltRed : Vector Byte 3
  updCtrl : Byte
  deriving DecidableEq, Repr

/-- The parameters R8 keeps open: `RES_TABLE`, `LUT`, `HT_VARIANTS`, the GK opcodes and constants, `RED_OVERRIDE_RES` and
`T_REFRESH` (milliseconds). -/
structure Params where
  resTable : List ResEntry
  lut : LutRom
  htVariants : List Nat
  op : OpcodeParams
  k : PayloadParams
  redOverrideRes : Nat × Nat
  tRefresh : Nat
  deriving DecidableEq, Repr

/-- UNVERIFIED (safe): the bytes of the four LUTs at reset, values nothing knows (R37: "the model must treat each table as an
opaque constant of which it knows only the length"). Log entry 3. -/
opaque Config.lutByte : LutName → Nat → Byte

end Sys2Proof
end

