-- ==== Sys2Proof/Machine/Defaults.lean ====
section
/-! DEFINITION. The values the document states (constants, R8 rows marked Source, R96, R97) and the default of every other
parameter (R8 rows marked GK default), which State.reset holds and no rule fixes. -/

namespace Sys2Proof.Config

/-- `OP_ANALOG` (R96, the document's §8). -/
def opAnalog : Byte := 0x74
/-- `OP_DIGITAL` (R96, the document's §8). -/
def opDigital : Byte := 0x7E
/-- `OP_SLEEP` (R96, the document's §8). -/
def opSleep : Byte := 0x10
/-- `K_ANALOG` (R97, the document's §8). -/
def kAnalog : Byte := 0x54
/-- `K_DIGITAL` (R97, the document's §8). -/
def kDigital : Byte := 0x3B
/-- `K_SLEEP` (R97, the document's §8). -/
def kSleep : Byte := 0x01
/-- `T_RST_SETTLE`, 100 ms (R8). -/
def tRstSettle : Nat := 100
/-- `T_TRIG_SETTLE`, 50 ms (R8). -/
def tTrigSettle : Nat := 50
/-- `T_SWRESET`, 1.0 s, in milliseconds (R8; log entry 9). -/
def tSwreset : Nat := 1000

/-- PRESUMED (unsafe if relied on): the default contents of `RES_TABLE` (R36, D11). Log entry 2. -/
def defaultResTable : List ResEntry :=
  [⟨800, 480, 800, 480, .rot0⟩, ⟨600, 448, 600, 448, .rot0⟩, ⟨400, 300, 400, 300, .rot0⟩,
   ⟨212, 104, 104, 212, .rotM90⟩, ⟨250, 122, 250, 122, .rotM90⟩]

/-- PRESUMED (unsafe if relied on): the default opcodes (R96, GK rows). Log entry 2. -/
def defaultOpcodes : OpcodeParams where
  gateSet := 0x01
  gateVolt := 0x03
  srcVolt := 0x04
  dataEntry := 0x11
  swreset := 0x12
  activate := 0x20
  updCtrl := 0x22
  ramA := 0x24
  ramB := 0x26
  vcom := 0x2C
  lut := 0x32
  dummy := 0x3A
  gateWidth := 0x3B
  border := 0x3C
  ramX := 0x44
  ramY := 0x45
  xptr := 0x4E
  yptr := 0x4F

/-- PRESUMED (unsafe if relied on): the default payload constants (R97, GK rows). Log entry 2. -/
def defaultPayloads : PayloadParams where
  gateVolt := 0x17
  srcVolt := #v[0x41, 0xAC, 0x32]
  dummy := 0x07
  gateWidth := 0x04
  dataEntry := 0x03
  vcom := 0x3C
  borderDefault := 0x00
  borderBlack := 0x00
  borderRed := 0x73
  borderYellow := 0x33
  borderWhite := 0x31
  srcVoltYellow := #v[0x07, 0xAC, 0x32]
  srcVoltRed := #v[0x30, 0xAC, 0x22]
  updCtrl := 0xC7

/-- Thirty-five opaque bytes of one LUT, from byte `first` on. -/
def opaqueBytes (name : LutName) (first : Nat) : Vector Byte 35 :=
  ⟨⟨(List.range 35).map (fun i => lutByte name (first + i))⟩, by simp⟩

/-- One LUT of the reset state: 70 bytes nothing is known of (R37, D12). Log entry 3. -/
def opaqueLut (name : LutName) : LutTable where
  voltage := opaqueBytes name 0
  timing := opaqueBytes name 35

/-- The parameters State.reset holds: the defaults of R8. Log entry 2. -/
def defaultParams : Params where
  resTable := defaultResTable
  lut := ⟨opaqueLut .black, opaqueLut .red, opaqueLut .redHt, opaqueLut .yellow⟩
  htVariants := [1, 6]
  op := defaultOpcodes
  k := defaultPayloads
  redOverrideRes := (400, 300)
  tRefresh := 30000

end Sys2Proof.Config
end

