-- ==== Sys2Proof/Machine/Operands.lean ====
section
/-! DEFINITION. Operand forms: the byte splits of R10, the payload of every frame whose payload is not a constant (R94), the border
pattern (R251), the opcode list (R96), the lookups of the three PanelProfile tables (R36, R37, R190) and the operand checks of
CONFIGURE (R98). All are functions of numbers and parameters; none reads State. -/

namespace Sys2Proof

/-- `lo8(v)` = v mod 256 (R10). -/
def lo8 (v : Nat) : Byte := BitVec.ofNat 8 (v % 256)

/-- `hi8(v)` = (v div 256) mod 256 (R10). -/
def hi8 (v : Nat) : Byte := BitVec.ofNat 8 (v / 256 % 256)

/-- `le16(v)`: low byte first (R10, R62). -/
def le16 (v : Nat) : List Byte := [lo8 v, hi8 v]

/-- GATE_SETTING: `le16(ROWS) ++ [0x00]` (R94, R243). -/
def gateSettingBytes (rows : Nat) : List Byte := le16 rows ++ [0]

/-- RAM_X_WINDOW: `[0x00, COLS div 8 - 1]` (R94, R257). Outside the bounds of R22 the byte is cut: log entry 16. -/
def ramXWindowBytes (cols : Nat) : List Byte := [0, BitVec.ofNat 8 (cols / 8 - 1)]

/-- RAM_Y_WINDOW: `le16(0) ++ le16(ROWS - 1)` (R94, R258). -/
def ramYWindowBytes (rows : Nat) : List Byte := le16 0 ++ le16 (rows - 1)

/-- RAM_X_PTR: `[0x00]` (R94, R259). -/
def ramXPtrBytes : List Byte := [0]

/-- RAM_Y_PTR: `le16(0)` (R94, R260). -/
def ramYPtrBytes : List Byte := le16 0

/-- The four arms of BORDER_MATCH; none for (ACCENT, black) (R251). -/
def borderPattern (k : PayloadParams) : Color → Profile → Option Byte
  | .black, _ => some k.borderBlack
  | .accent, .red => some k.borderRed
  | .accent, .yellow => some k.borderYellow
  | .white, _ => some k.borderWhite
  | .accent, .black => none

/-- The plane length `ceil(COLS * ROWS / 8)` (R40). -/
def planeLength (cols rows : Nat) : Nat := (cols * rows + 7) / 8

/-- The 70 bytes of one table, phase voltages first (R37). -/
def LutTable.bytes (t : LutTable) : List Byte := t.voltage.toList ++ t.timing.toList

/-- `ROM_LUT(name)` (R37). -/
def romLut (r : LutRom) : LutName → LutTable
  | .black => r.black
  | .red => r.red
  | .redHt => r.redHt
  | .yellow => r.yellow

/-- `ROM_RES(w, h)`: exact, ordered comparison with the keys (R36, R121). -/
def romRes (p : Params) (w h : Nat) : Option ResEntry :=
  p.resTable.find? (fun e => e.w == w && e.h == h)

/-- The requestable profile a name stands for; red_ht is not one (R98 (b), D13). -/
def profileOfName (name : String) : Option Profile :=
  if name = "black" then some .black
  else if name = "red" then some .red
  else if name = "yellow" then some .yellow
  else none

/-- The identity record, when present, has the requested resolution (R122). -/
def identityMatches (w h : Nat) : Option IdentityRecord → Bool
  | none => true
  | some r => r.width == w && r.height == h

/-- The record reports an upgrade variant and the accent colour "red" (R190, R191, D14). -/
def upgrades (p : Params) (r : IdentityRecord) : Bool :=
  p.htVariants.contains r.variantCode && r.accentColorName == "red"

/-- `LUTSEL_FN(prof, id)` (R190). -/
def lutselFn (p : Params) : Profile → Option IdentityRecord → LutName
  | .red, some r => if upgrades p r then .redHt else .red
  | .red, none => .red
  | .black, _ => .black
  | .yellow, _ => .yellow

/-- A two-bit border operand as a colour; 3 is reserved and ignored (R98 (e), D22). -/
def colorOfOperand (c : BitVec 2) : Option Color :=
  if c = 0 then some .white
  else if c = 1 then some .black
  else if c = 2 then some .accent
  else none

/-- The border register after a border operand: 3 keeps the old value (R120, R126). -/
def borderAfter (old : Color) (c : BitVec 2) : Color := (colorOfOperand c).getD old

/-- A cell value the single-pixel set accepts: 0, 1 or 2 (R140, R142). -/
def validColor (c : Byte) : Bool := c == 0 || c == 1 || c == 2

/-- The 21 opcodes in the order of R96. -/
def opcodes (op : OpcodeParams) : List Byte :=
  [op.gateSet, op.gateVolt, op.srcVolt, Config.opSleep, op.dataEntry, op.swreset, op.activate, op.updCtrl, op.ramA, op.ramB,
   op.vcom, op.lut, op.dummy, op.gateWidth, op.border, op.ramX, op.ramY, op.xptr, op.yptr, Config.opAnalog, Config.opDigital]

end Sys2Proof
end

