-- ==== Sys2Proof/Syntax.lean ====
section
/-! DEFINITION. The instructions: one constructor per row of spec/opcode_table.json (24 frames, 5 micro-operations, 5 host
operations, 2 internal operations), with the operands of 30_encoding.md R93 and 44_sequencer.md R210 to R214. A frame has no
operand of its own: its payload comes from the ROMs, the constants and the register file (R91, R94). -/

namespace Sys2Proof

/-- The instruction set. -/
inductive Instr where
  /-- SWRESET, R240. -/
  | swreset
  /-- ANALOG_BLOCK, R241. -/
  | analogBlock
  /-- DIGITAL_BLOCK, R242. -/
  | digitalBlock
  /-- GATE_SETTING, R243. -/
  | gateSetting
  /-- GATE_VOLT, R244. -/
  | gateVolt
  /-- SOURCE_VOLT, R245. -/
  | sourceVolt
  /-- DUMMY_LINE, R246. -/
  | dummyLine
  /-- GATE_WIDTH, R247. -/
  | gateWidth
  /-- DATA_ENTRY, R248. -/
  | dataEntry
  /-- VCOM, R249. -/
  | vcom
  /-- BORDER_DEFAULT, R250. -/
  | borderDefault
  /-- BORDER_MATCH, R251. -/
  | borderMatch
  /-- SOURCE_VOLT_Y, R252. -/
  | sourceVoltY
  /-- SOURCE_VOLT_R, R253. -/
  | sourceVoltR
  /-- LUT_LOAD, R256. -/
  | lutLoad
  /-- RAM_X_WINDOW, R257. -/
  | ramXWindow
  /-- RAM_Y_WINDOW, R258. -/
  | ramYWindow
  /-- RAM_X_PTR, R259. -/
  | ramXPtr
  /-- RAM_Y_PTR, R260. -/
  | ramYPtr
  /-- RAM_WRITE_A, R261. -/
  | ramWriteA
  /-- RAM_WRITE_B, R262. -/
  | ramWriteB
  /-- UPDATE_CTRL, R263. -/
  | updateCtrl
  /-- ACTIVATE, R264. -/
  | activate
  /-- DEEP_SLEEP, R265. -/
  | deepSleep
  /-- ACQUIRE, R210. -/
  | acquire
  /-- RSTLINE lvl, R211. -/
  | rstline (lvl : LineLevel)
  /-- DELAY ms, R212. -/
  | delay (ms : Nat)
  /-- WAITBUSY t cause, R213; `t` in milliseconds. -/
  | waitbusy (t : Nat) (cause : TimeoutCause)
  /-- FRAME op payload, R214. -/
  | frame (op : Byte) (payload : List Byte)
  /-- CONFIGURE, R93 and R120. `borderColor` has the two bits of the operand type 0..3 (D22). -/
  | configure (w h : Nat) (colorProfile : String) (borderColor : BitVec 2) (flipHorizontal flipVertical : Bool)
      (identity : Option IdentityRecord)
  /-- SETBORDER, R126. -/
  | setborder (color : BitVec 2)
  /-- SETPIXEL, R140: integer coordinates, any cell value. -/
  | setpixel (x y : Int) (color : Byte)
  /-- LOADFRAME, R143: cells in logical raster order. -/
  | loadframe (raster : List Byte)
  /-- UPDATE, R201. -/
  | update (wait : Bool)
  /-- PACK, R160. -/
  | pack
  /-- LUTSEL, R190. -/
  | lutsel (prof : Profile) (identity : Option IdentityRecord)
  deriving DecidableEq, Repr

end Sys2Proof
end

