-- ==== Sys2Proof/WellFormed.lean ====
section
/-! DEFINITION. Which parameters the model accepts (R8, R36, R95, R97) and which instructions are well formed (R99, R212, R213).
Each check has an ill-formed term it refuses in Sys2Proof/Tests/Slice0.lean. Nothing here changes what an instruction does: log entry 16. -/

namespace Sys2Proof

/-- The constraints R36 puts on one entry of `RES_TABLE`, with the bound of R21 on its key. -/
def ResEntry.valid (e : ResEntry) : Bool :=
  e.w * e.h == e.cols * e.rows && 8 ≤ e.cols && e.cols ≤ 2048 && 1 ≤ e.rows && e.rows ≤ 65535
    && e.w < 65536 && e.h < 65536

/-- `RES_TABLE` as R36 and D11 want it: five entries, distinct keys, (400, 300) among them, every entry valid. -/
def resTableValid (t : List ResEntry) : Bool :=
  t.length == 5 && decide (t.map (fun e => (e.w, e.h))).Nodup && t.any (fun e => e.w == 400 && e.h == 300)
    && t.all ResEntry.valid

/-- The 21 opcodes are pairwise distinct (R95, D15). -/
def opcodesDistinct (op : OpcodeParams) : Bool := decide (opcodes op).Nodup

/-- The four matched border patterns are distinct; the default need not differ from them (R97). -/
def bordersDistinct (k : PayloadParams) : Bool :=
  decide [k.borderBlack, k.borderRed, k.borderYellow, k.borderWhite].Nodup

/-- The parameters the model accepts. -/
def Params.valid (p : Params) : Bool :=
  resTableValid p.resTable && opcodesDistinct p.op && bordersDistinct p.k

/-- A shape-consistent table entry (R36). -/
def ResEntry.shapeConsistent (e : ResEntry) : Bool :=
  match e.rot with
  | .rot0 => e.cols == e.w && e.rows == e.h
  | .rotM90 => e.cols == e.h && e.rows == e.w

/-- Operands of the micro-operations as the register ROM uses them: a delay is one of the two settle times (R212), a wait pairs
each cause with its own timeout (R213), a generic frame carries one of the 21 opcodes (R99). Every other operand type is exact
already (R93). -/
def Instr.wellFormed (p : Params) : Instr → Bool
  | .delay ms => ms == Config.tRstSettle || ms == Config.tTrigSettle
  | .waitbusy t .softReset => t == Config.tSwreset
  | .waitbusy t .refresh => t == p.tRefresh
  | .frame op _ => (opcodes p.op).contains op
  | .swreset | .analogBlock | .digitalBlock | .gateSetting | .gateVolt | .sourceVolt | .dummyLine | .gateWidth | .dataEntry
  | .vcom | .borderDefault | .borderMatch | .sourceVoltY | .sourceVoltR | .lutLoad | .ramXWindow | .ramYWindow | .ramXPtr
  | .ramYPtr | .ramWriteA | .ramWriteB | .updateCtrl | .activate | .deepSleep | .acquire | .rstline _
  | .configure _ _ _ _ _ _ _ | .setborder _ | .setpixel _ _ _ | .loadframe _ | .update _ | .pack | .lutsel _ _ => true

end Sys2Proof
end

