-- ==== Sys2Proof/Decode.lean ====
section
/-! DEFINITION. The decoder and the encoder of frames, the one byte-exact encoding the spec gives (30_encoding.md R90, R91, R95,
R100): a frame is one `Cmd` word and at most one `Data` word. Host operations, micro-operations and internal operations have no
byte encoding (R93, R95), so no word decodes to one of them. Total on any words; what is no frame is rejected by name. -/

namespace Sys2Proof

/-- What the transport carries for a frame: the primitive used tells command from data, never a bit of the byte (R90). -/
inductive BusWord where
  | cmd (b : Byte)
  | data (bs : List Byte)
  deriving DecidableEq, Repr

/-- Why words are not a frame. -/
inductive DecodeError where
  /-- No word is left. -/
  | noWord
  /-- A frame begins with a command, and a data word came first (R90). -/
  | dataFirst
  /-- A data word carries at least one byte (R12, R71). -/
  | emptyData
  /-- The command byte is none of the 21 opcodes (R99). -/
  | unknownOpcode (b : Byte)
  /-- The payload does not have the length the frame has (R91, R100). -/
  | payloadLength (b : Byte) (n : Nat)
  deriving DecidableEq, Repr

/-- A decoded frame: its instruction, its payload, and the words after it. -/
structure Decoded where
  instr : Instr
  payload : List Byte
  rest : List BusWord
  deriving DecidableEq, Repr

/-- What a frame's payload is assembled from (R94): geometry, border and profile, the selected LUT, the two planes. -/
structure FrameOperands where
  rows : Nat
  cols : Nat
  border : Color
  profile : Profile
  lut : LutTable
  pa : List Byte
  pb : List Byte
  deriving DecidableEq, Repr

/-- The frames in ROM order, the first one of each opcode: a row of `opcode_table.json` per opcode of R96. -/
def opcodeMap (op : OpcodeParams) : List (Byte × Instr) :=
  [(op.swreset, .swreset), (Config.opAnalog, .analogBlock), (Config.opDigital, .digitalBlock), (op.gateSet, .gateSetting),
   (op.gateVolt, .gateVolt), (op.srcVolt, .sourceVolt), (op.dummy, .dummyLine), (op.gateWidth, .gateWidth),
   (op.dataEntry, .dataEntry), (op.vcom, .vcom), (op.border, .borderDefault)] ++
  [(op.lut, .lutLoad), (op.ramX, .ramXWindow), (op.ramY, .ramYWindow), (op.xptr, .ramXPtr), (op.yptr, .ramYPtr),
   (op.ramA, .ramWriteA), (op.ramB, .ramWriteB), (op.updCtrl, .updateCtrl), (op.activate, .activate),
   (Config.opSleep, .deepSleep)]

/-- Frames that share an opcode are told apart by their ROM entry, not by their bytes (R95): entry 17 is BORDER_MATCH, 18 and 19
are the two source-voltage overrides. -/
def atEntry (entry : Option RomIndex) : Instr → Instr
  | .borderDefault => if entry = some 17 then .borderMatch else .borderDefault
  | .sourceVolt => if entry = some 18 then .sourceVoltY else if entry = some 19 then .sourceVoltR else .sourceVolt
  | i => i

/-- The frame an opcode byte stands for, given the ROM entry if it is known. -/
def decodeOpcode (op : OpcodeParams) (entry : Option RomIndex) (b : Byte) : Option Instr :=
  ((opcodeMap op).find? (fun r => r.1 == b)).map (fun r => atEntry entry r.2)

/-- The payload length a frame allows (R91, R100): none, a constant 1 to 4, 70, or a plane of at least one byte. -/
def payloadLengthOk : Instr → Nat → Bool
  | .swreset, n | .activate, n => n == 0
  | .analogBlock, n | .digitalBlock, n | .gateVolt, n | .dummyLine, n | .gateWidth, n | .dataEntry, n | .vcom, n
  | .borderDefault, n | .borderMatch, n | .ramXPtr, n | .updateCtrl, n | .deepSleep, n => n == 1
  | .ramXWindow, n | .ramYPtr, n => n == 2
  | .gateSetting, n | .sourceVolt, n | .sourceVoltY, n | .sourceVoltR, n => n == 3
  | .ramYWindow, n => n == 4
  | .lutLoad, n => n == 70
  | .ramWriteA, n | .ramWriteB, n => 1 ≤ n
  | .acquire, _ | .rstline _, _ | .delay _, _ | .waitbusy _ _, _ | .frame _ _, _ | .configure _ _ _ _ _ _ _, _
  | .setborder _, _ | .setpixel _ _ _, _ | .loadframe _, _ | .update _, _ | .pack, _ | .lutsel _ _, _ => false

/-- The payload of a frame at the head of the words after its command: the next word if it is data (R90). -/
def splitPayload : List BusWord → List Byte × List BusWord
  | .data bs :: rest => (bs, rest)
  | .cmd b :: rest => ([], .cmd b :: rest)
  | [] => ([], [])

/-- Decode the frame at the head of a list of words (R90, R100). -/
def decode (op : OpcodeParams) (entry : Option RomIndex) : List BusWord → Except DecodeError Decoded
  | [] => .error .noWord
  | .data _ :: _ => .error .dataFirst
  | .cmd _ :: .data [] :: _ => .error .emptyData
  | .cmd b :: ws =>
    match decodeOpcode op entry b with
    | none => .error (.unknownOpcode b)
    | some i =>
      if payloadLengthOk i (splitPayload ws).1.length then .ok ⟨i, (splitPayload ws).1, (splitPayload ws).2⟩
      else .error (.payloadLength b (splitPayload ws).1.length)

/-- The opcode of a frame (R96); an instruction that is no frame has none. -/
def opcodeOf (op : OpcodeParams) : Instr → Option Byte
  | .swreset => some op.swreset
  | .analogBlock => some Config.opAnalog
  | .digitalBlock => some Config.opDigital
  | .gateSetting => some op.gateSet
  | .gateVolt => some op.gateVolt
  | .sourceVolt | .sourceVoltY | .sourceVoltR => some op.srcVolt
  | .dummyLine => some op.dummy
  | .gateWidth => some op.gateWidth
  | .dataEntry => some op.dataEntry
  | .vcom => some op.vcom
  | .borderDefault | .borderMatch => some op.border
  | .lutLoad => some op.lut
  | .ramXWindow => some op.ramX
  | .ramYWindow => some op.ramY
  | .ramXPtr => some op.xptr
  | .ramYPtr => some op.yptr
  | .ramWriteA => some op.ramA
  | .ramWriteB => some op.ramB
  | .updateCtrl => some op.updCtrl
  | .activate => some op.activate
  | .deepSleep => some Config.opSleep
  | .acquire | .rstline _ | .delay _ | .waitbusy _ _ | .frame _ _ | .configure _ _ _ _ _ _ _ | .setborder _
  | .setpixel _ _ _ | .loadframe _ | .update _ | .pack | .lutsel _ _ => none

/-- The payload of a frame (R94, R97, R240 to R265); none for an instruction that is no frame, and for BORDER_MATCH where no arm
matches, which sends no frame (R251). -/
def payloadOf (k : PayloadParams) (o : FrameOperands) : Instr → Option (List Byte)
  | .swreset | .activate => some []
  | .analogBlock => some [Config.kAnalog]
  | .digitalBlock => some [Config.kDigital]
  | .gateSetting => some (gateSettingBytes o.rows)
  | .gateVolt => some [k.gateVolt]
  | .sourceVolt => some k.srcVolt.toList
  | .sourceVoltY => some k.srcVoltYellow.toList
  | .sourceVoltR => some k.srcVoltRed.toList
  | .dummyLine => some [k.dummy]
  | .gateWidth => some [k.gateWidth]
  | .dataEntry => some [k.dataEntry]
  | .vcom => some [k.vcom]
  | .borderDefault => some [k.borderDefault]
  | .borderMatch => (borderPattern k o.border o.profile).map (fun b => [b])
  | .lutLoad => some o.lut.bytes
  | .ramXWindow => some (ramXWindowBytes o.cols)
  | .ramYWindow => some (ramYWindowBytes o.rows)
  | .ramXPtr => some ramXPtrBytes
  | .ramYPtr => some ramYPtrBytes
  | .ramWriteA => some o.pa
  | .ramWriteB => some o.pb
  | .updateCtrl => some [k.updCtrl]
  | .deepSleep => some [Config.kSleep]
  | .acquire | .rstline _ | .delay _ | .waitbusy _ _ | .frame _ _ | .configure _ _ _ _ _ _ _ | .setborder _
  | .setpixel _ _ _ | .loadframe _ | .update _ | .pack | .lutsel _ _ => none

/-- The words of a frame: the command, then the payload as one data word unless it is empty (R90, R71). -/
def frameWords (b : Byte) : List Byte → List BusWord
  | [] => [.cmd b]
  | x :: xs => [.cmd b, .data (x :: xs)]

/-- The words of an instruction that is a frame. -/
def encode (p : Params) (o : FrameOperands) (i : Instr) : Option (List BusWord) :=
  match opcodeOf p.op i, payloadOf p.k o i with
  | some b, some bs => some (frameWords b bs)
  | _, _ => none

/-- The ROM entries at which a frame stands (R203). -/
def entriesOf : Instr → List RomIndex
  | .swreset => [5]
  | .analogBlock => [7]
  | .digitalBlock => [8]
  | .gateSetting => [9]
  | .gateVolt => [10]
  | .sourceVolt => [11]
  | .dummyLine => [12]
  | .gateWidth => [13]
  | .dataEntry => [14]
  | .vcom => [15]
  | .borderDefault => [16]
  | .borderMatch => [17]
  | .sourceVoltY => [18]
  | .sourceVoltR => [19]
  | .lutLoad => [20]
  | .ramXWindow => [21]
  | .ramYWindow => [22]
  | .ramXPtr => [23, 26]
  | .ramYPtr => [24, 27]
  | .ramWriteA => [25]
  | .ramWriteB => [28]
  | .updateCtrl => [29]
  | .activate => [30]
  | .deepSleep => [33]
  | .acquire | .rstline _ | .delay _ | .waitbusy _ _ | .frame _ _ | .configure _ _ _ _ _ _ _ | .setborder _
  | .setpixel _ _ _ | .loadframe _ | .update _ | .pack | .lutsel _ _ => []

/-- The shortest payload a frame may have: what a word of the opcode table, which gives payloads no bits, stands for. -/
def tablePayloadLength (i : Instr) : Nat :=
  ((List.range 71).find? (payloadLengthOk i)).getD 0

/-- Byte `n` of a word numbered as the opcode table numbers it: bits 8n+7 down to 8n. -/
def tableByte (w n : Nat) : Byte := BitVec.ofNat 8 (w >>> (8 * n))

/-- The bus words of a table word: byte 0 is the command, the bytes after it are the payload (zeros where the table gives none). -/
def tableWords (op : OpcodeParams) (w : Nat) : List BusWord :=
  match decodeOpcode op none (tableByte w 0) with
  | none => [.cmd (tableByte w 0)]
  | some i => frameWords (tableByte w 0) ((List.range (tablePayloadLength i)).map (fun n => tableByte w (n + 1)))

/-- The instruction the decoder reads from a word of the opcode table under the default opcodes. Opcodes 0x04 and 0x3C stand for
several rows; without a ROM entry the first one, SOURCE_VOLT and BORDER_DEFAULT, is read (R95, log entry 6). -/
def decodeTableWord (nbits w : Nat) : Option Instr :=
  if nbits < 8 then none
  else
    match decode Config.defaultOpcodes none (tableWords Config.defaultOpcodes w) with
    | .ok d => some d.instr
    | .error _ => none

end Sys2Proof
end

