-- ==== Sys2Proof/Machine/State.lean ====
section
/-! DEFINITION. The architectural state of 10_state.md (R20 to R46) as plain data, the boundary it stands in (host operations
waiting, what the caller received, the environment's answers), the events of the trace (R12), the ways a step stops, and reset. -/

namespace Sys2Proof.Machine

/-! ### The transport boundary -/

/-- What the environment decides at one event (R12, R286, U23): whether the event fails, whether an acquisition warns, the level a
`ReadLine` finds, what a `WaitEdge` reports. An event uses the parts that apply to it. -/
structure Answer where
  fails : Bool
  warn : Bool
  level : BusyLevel
  edge : Bool
  deriving DecidableEq, Repr

/-- The environment's answers to come: those of `script` in order, then `rest` for ever (log entry 4). -/
structure Env where
  script : List Answer
  rest : Answer
  deriving DecidableEq, Repr

/-- The answer recorded on an `Acquire` event (R210). -/
inductive AcquireReply where
  | ok
  | warn
  | fail
  deriving DecidableEq, Repr

/-- The outcome recorded on a `SetLine`, `Cmd` or `Data` event: completed, or attempted and failed (R286). -/
inductive SendReply where
  | done
  | failed
  deriving DecidableEq, Repr

/-- The answer recorded on a `ReadLine(BUSY)` event (R12). -/
inductive ReadReply where
  | level (l : BusyLevel)
  | failed
  deriving DecidableEq, Repr

/-- The answer recorded on a `WaitEdge(BUSY, t)` event (R12). -/
inductive WaitReply where
  | edge (seen : Bool)
  | failed
  deriving DecidableEq, Repr

/-- The event alphabet of R12, each event with the environment's answer on it. Times are in milliseconds (log entry 9). -/
inductive Event where
  | acquire (r : AcquireReply)
  | setLine (lvl : LineLevel) (r : SendReply)
  | delay (ms : Nat)
  | cmd (b : Byte) (r : SendReply)
  | data (bs : List Byte) (r : SendReply)
  | readLine (r : ReadReply)
  | waitEdge (t : Nat) (r : WaitReply)
  deriving DecidableEq, Repr

/-! ### The caller's side -/

/-- `ERR`: the cause of the last exception an UPDATE raised (R35). -/
inductive ErrCause where
  | none
  | timeoutSoftReset
  | timeoutRefresh
  | transport
  deriving DecidableEq, Repr

/-- What a host operation gives its caller: OK, or one of the exceptions of R280 with the value it records. -/
inductive CallResult where
  | ok
  | unsupportedResolution (w h : Nat)
  | unsupportedProfile (name : String)
  | identityMismatch (width height : Nat)
  | timeoutError (cause : TimeoutCause) (step : RomIndex)
  | transportError (step : RomIndex)
  | boundsFault (x y : Int)
  deriving DecidableEq, Repr

/-- A host operation (R93): the five a caller may issue. -/
inductive HostOp where
  | configure (w h : Nat) (colorProfile : String) (borderColor : BitVec 2) (flipHorizontal flipVertical : Bool)
      (identity : Option IdentityRecord)
  | setborder (color : BitVec 2)
  | setpixel (x y : Int) (color : Byte)
  | loadframe (raster : List Byte)
  | update (wait : Bool)
  deriving DecidableEq, Repr

/-! ### Memory -/

/-- The frame store `FS` as (linear address, cell) pairs: addresses strictly rising, and no cell that is WHITE, which is what an
unlisted address reads as (R39, R123). -/
abbrev Memory := List Host.Cell

/-- What an unlisted cell reads as: WHITE (R123, D5). Log entry 10. -/
def unlistedCell : Byte := 0

/-- The canonical form of a frame store. -/
abbrev Memory.wf (m : Memory) : Prop :=
  m.Pairwise (fun c d => c.1 < d.1) ∧ ∀ c ∈ m, c.2 ≠ unlistedCell

/-! ### Registers and State -/

/-- Which event of the register-ROM entry at `STEP` is due (R7, R12): its first one, or the second event of a frame (`Data`, R214) or
of a wait (`WaitEdge`, R213). The model's own field: log entry 8. -/
inductive Beat where
  | first
  | second
  deriving DecidableEq, Repr

/-- The configuration register file (R21 to R27). -/
structure Regs where
  /-- `W`, logical width (R21). -/
  w : Nat
  /-- `H`, logical height (R21). -/
  h : Nat
  /-- `COLS`, controller columns (R22). -/
  cols : Nat
  /-- `ROWS`, controller rows (R22). -/
  rows : Nat
  /-- `ROT`, rotation tag (R23). -/
  rot : Rot
  /-- `PROFILE`, requested colour profile (R24). -/
  profile : Profile
  /-- `LUTSEL`, selected LUT (R25). -/
  lutsel : LutName
  /-- `BORDER`, border colour (R26). -/
  border : Color
  /-- `HFLIP` (R27). -/
  hflip : Bool
  /-- `VFLIP` (R27). -/
  vflip : Bool
  deriving DecidableEq, Repr

/-- The whole state of the block (R20) and its boundary. -/
structure State where
  /-- The parameters of R8, `ROM_RES` and `ROM_LUT` among them (R36, R37). No step writes them. -/
  params : Params
  /-- The configuration register file (R21 to R27). -/
  regs : Regs
  /-- `STATE`, half of the program counter (R30, R200). -/
  state : SeqState
  /-- `STEP`, the other half: the register-ROM entry performed next (R30). -/
  step : RomIndex
  /-- Which event of that entry is due (R7; log entry 8). -/
  beat : Beat
  /-- `INIT`: the transport has been acquired (R31). -/
  init : Bool
  /-- `CFGV`: a CONFIGURE has succeeded (R32). -/
  cfgv : Bool
  /-- `WAIT`: the operand of the UPDATE in flight (R33). -/
  wait : Bool
  /-- `INFLIGHT`: an UPDATE has been accepted and has not ended (R34). -/
  inflight : Bool
  /-- `ERR` (R35). -/
  err : ErrCause
  /-- `ERRSTEP`: `STEP` when the exception was raised (R35). -/
  errstep : RomIndex
  /-- `WARN`: the setup warning has been seen (R35, R288). -/
  warn : Bool
  /-- `FS`, the frame store: cells 0 to `W * H - 1` (R39). -/
  fs : Memory
  /-- `PA`, the monochrome plane (R40). -/
  pa : List Byte
  /-- `PB`, the accent plane (R40). -/
  pb : List Byte
  /-- `TR`, every event emitted since power-on, oldest first (R41). -/
  tr : List Event
  /-- Host operations the one caller will issue, in order (R73; log entry 5). -/
  calls : List HostOp
  /-- What the caller has received, one entry per ended operation, oldest first (R42, R205, R280; log entry 5). -/
  results : List CallResult
  /-- The environment's answers to come (R12; log entry 4). -/
  env : Env
  deriving DecidableEq, Repr

/-- No behaviour of the block is a fault in the sense of a stuck machine: "every host operation in every state either completes, is
refused, or raises" (93_implementation_defined.md, end of part 2), and an exception that is raised is a next state (R295). So the
type has no constructor, and no step can answer with one. Log entry 12. -/
inductive Fault where
  deriving DecidableEq, Repr

/-- Why a step has no meaning (R13: `refuse`). All of them are safe: the spec gives the operation no meaning there. Log entry 12. -/
inductive Refusal where
  /-- Raised by exec for an instruction that has no meaning yet; no arm uses it. -/
  | notModelled (mnemonic : String)
  /-- Raised by every host operation issued while `INFLIGHT` = 1 (R34, R76). Safe. -/
  | updateInFlight
  /-- Raised by SETBORDER, SETPIXEL, LOADFRAME and UPDATE while `CFGV` = 0 (R32). Safe. -/
  | notConfigured
  /-- Raised by LOADFRAME when the raster has `got` cells and not `W * H` (R143). Safe. -/
  | rasterLength (got wanted : Nat)
  deriving DecidableEq, Repr

/-- DESIGN CHOICE (unsafe if relied on): the answers of an environment in which nothing fails, nothing warns and the busy line is
READY. Log entry 4. -/
def benignAnswer : Answer := ⟨false, false, .ready, true⟩

/-- The configuration registers after power-on: `BORDER` is WHITE (R26, R46); the others have no value in the spec and hold the zero
of their type here (DESIGN CHOICE, unsafe if relied on; log entry 1). -/
def Regs.reset : Regs where
  w := 0
  h := 0
  cols := 0
  rows := 0
  rot := .rot0
  profile := .black
  lutsel := .black
  border := .white
  hflip := false
  vflip := false

/-- The machine after power-on reset (R46, R320). `WAIT`, `PA` and `PB` have no value in the spec (log entry 1); the parameters are
the defaults (log entries 2 and 3); the caller has issued nothing and the environment is benign (log entries 4 and 5); no event is due (log
entry 8). -/
def State.reset : State where
  params := Config.defaultParams
  regs := Regs.reset
  state := .uninitialized
  step := 0
  beat := .first
  init := false
  cfgv := false
  wait := false
  inflight := false
  err := .none
  errstep := 0
  warn := false
  fs := []
  pa := []
  pb := []
  tr := []
  calls := []
  results := []
  env := ⟨[], benignAnswer⟩

end Sys2Proof.Machine
end

