-- ==== Sys2Proof/Machine/Flags.lean ====
section
/-! DEFINITION. The status flags: the conditions the register ROM tests (R203), and the flag changes of an UPDATE's acceptance
(R201) and of a successful ACQUIRE (R210). The flags a trap and a return change are in Machine/Ops.lean. -/

namespace Sys2Proof.Machine

/-- The condition under which a register-ROM entry is performed (R92, R203). -/
inductive Condition where
  | always
  /-- `INIT` = 0 (entry 0). -/
  | initClear
  /-- (`BORDER`, `PROFILE`) matches an arm of R251 (entry 17). -/
  | borderMatches
  /-- `PROFILE` = yellow (entry 18). -/
  | profileYellow
  /-- `PROFILE` = red and (`W`, `H`) = `RED_OVERRIDE_RES` (entry 19). -/
  | redAtOverride
  /-- `WAIT` = 1 (entries 32 and 33). -/
  | waitSet
  deriving DecidableEq, Repr

/-- Profile red at the one resolution with its own source voltage (R253). -/
def redAtOverrideRes (s : State) : Bool :=
  s.regs.profile == .red && (s.regs.w, s.regs.h) == s.params.redOverrideRes

/-- The pattern BORDER_MATCH sends in this state, if an arm matches (R251). -/
def matchedBorder (s : State) : Option Byte := borderPattern s.params.k s.regs.border s.regs.profile

/-- Whether a condition holds of the register file and flags (R203). -/
def Condition.holds : Condition → State → Bool
  | .always, _ => true
  | .initClear, s => !s.init
  | .borderMatches, s => (matchedBorder s).isSome
  | .profileYellow, s => s.regs.profile == .yellow
  | .redAtOverride, s => redAtOverrideRes s
  | .waitSet, s => s.wait

/-- The flags and the step index an accepted UPDATE writes (R201). -/
def State.accept (wait : Bool) (s : State) : State :=
  { s with inflight := true, wait := wait, err := .none, errstep := 0, step := 0 }

/-- The flags a successful ACQUIRE writes: `INIT`, and `WARN` when the environment warned (R210, R288). -/
def State.acquired (warned : Bool) (s : State) : State :=
  { s with init := true, warn := s.warn || warned }

end Sys2Proof.Machine
end

