-- ==== Sys2Proof/Machine/Ops.lean ====
section
/-! DEFINITION. The named operations every meaning is written over: cells of the frame store (R60, R61), events and the
environment's answers (R12), the frame (R214), taking an exception (R295), the end of an UPDATE (R201), and the caller's results
(R280). -/

namespace Sys2Proof.Machine

/-! ### Frame store -/

/-- `MemRead(a, 1)` (R11, R60). -/
def Memory.read : Memory → Nat → Byte
  | [], _ => unlistedCell
  | (b, v) :: m, a => if a = b then v else Memory.read m a

/-- Put a cell in front unless it holds what an unlisted cell reads as. -/
def Memory.cons (a : Nat) (v : Byte) (m : Memory) : Memory :=
  if v = unlistedCell then m else (a, v) :: m

/-- `MemWrite(a, 1, v)` (R11, R60): keeps the canonical form. -/
def Memory.write : Memory → Nat → Byte → Memory
  | [], a, v => Memory.cons a v []
  | (b, u) :: m, a, v =>
    if a < b then Memory.cons a v ((b, u) :: m)
    else if a = b then Memory.cons a v m
    else (b, u) :: Memory.write m a v

/-- The store that holds a raster from address `a` on, and nothing else (R143: replaced wholesale). -/
def Memory.ofCells (a : Nat) : List Byte → Memory
  | [] => []
  | v :: vs => Memory.cons a v (Memory.ofCells (a + 1) vs)

/-- The number of cells `N = W * H` (R39). -/
def State.cellCount (s : State) : Nat := s.regs.w * s.regs.h

/-- The linear address of a cell (R60). -/
def State.cellAddress (s : State) (x y : Nat) : Nat := y * s.regs.w + x

/-! ### The environment's answers and the trace -/

/-- The next answer. -/
def Env.peek (e : Env) : Answer := e.script.headD e.rest

/-- The answers after the next one. -/
def Env.next (e : Env) : Env := { e with script := e.script.tail }

/-- The answers after the next `n`. -/
def Env.drop (e : Env) (n : Nat) : Env := { e with script := e.script.drop n }

/-- The answer `n` events ahead; the next one is number 0. -/
def Env.answer (e : Env) (n : Nat) : Answer := e.script.getD n e.rest

/-- `SetLine`, `Cmd` and `Data` complete or fail (R286). -/
def Answer.send (a : Answer) : SendReply := if a.fails then .failed else .done

/-- `Acquire` answers ok, warn or fail (R210). -/
def Answer.acquire (a : Answer) : AcquireReply := if a.fails then .fail else if a.warn then .warn else .ok

/-- `ReadLine(BUSY)` answers a level or fails (R12). -/
def Answer.read (a : Answer) : ReadReply := if a.fails then .failed else .level a.level

/-- `WaitEdge(BUSY, t)` answers true or false or fails (R12). -/
def Answer.wait (a : Answer) : WaitReply := if a.fails then .failed else .edge a.edge

/-- Append an event that needs no answer (R12, R212); the first event of an entry is due after it. -/
def State.record (ev : Event) (s : State) : State := { s with tr := s.tr ++ [ev], beat := .first }

/-- `emit E`: append the event with the environment's answer on it, and use that answer up (R12); the first event of an entry is due
after it, unless `secondDue` says otherwise. -/
def State.emit (ev : Answer → Event) (s : State) : State :=
  { s with tr := s.tr ++ [ev s.env.peek], env := s.env.next, beat := .first }

/-- The second event of the same entry is due. -/
def State.secondDue (s : State) : State := { s with beat := .second }

/-! ### Results, exceptions, the end of an UPDATE -/

/-- The caller receives the result of an operation (R280). -/
def State.reply (r : CallResult) (s : State) : State := { s with results := s.results ++ [r] }

/-- What can be raised inside an UPDATE (R280, codes 4 to 6). -/
inductive Trap where
  | timeout (cause : TimeoutCause)
  | transport
  deriving DecidableEq, Repr

/-- The value of `ERR` for a trap (R35, R280). -/
def Trap.cause : Trap → ErrCause
  | .timeout .softReset => .timeoutSoftReset
  | .timeout .refresh => .timeoutRefresh
  | .transport => .transport

/-- What the caller receives for a trap raised at ROM entry `k` (R280). -/
def Trap.result (k : RomIndex) : Trap → CallResult
  | .timeout c => .timeoutError c k
  | .transport => .transportError k

/-- Trap entry for an exception raised inside UPDATE (R295): the cause and the step are recorded, `STATE` is ERROR, `STEP` is 0, the
UPDATE is over and its caller receives the exception. Nothing is saved for a resumption. -/
def State.trap (t : Trap) (s : State) : State :=
  { s with
    err := t.cause, errstep := s.step, state := .error, step := 0, inflight := false,
    results := s.results ++ [t.result s.step] }

/-- There is no return from a trap (R298); this is the normal end of an UPDATE: `STEP <- 0; INFLIGHT <- 0; return OK` (R201). -/
def State.finish (s : State) : State :=
  { s with step := 0, inflight := false, results := s.results ++ [.ok] }

/-! ### The frame -/

/-- The `Cmd` event of a frame. -/
def State.emitCmd (op : Byte) (s : State) : State := s.emit (fun a => .cmd op a.send)

/-- The `Data` event of a frame. -/
def State.emitData (payload : List Byte) (s : State) : State := s.emit (fun a => .data payload a.send)

/-- The command of a frame; a failed one ends the UPDATE (R214). `more` says whether a `Data` event follows. -/
def sendCmd (op : Byte) (more : Bool) (s : State) : State :=
  if s.env.peek.fails then (s.emitCmd op).trap .transport
  else if more then (s.emitCmd op).secondDue
  else s.emitCmd op

/-- The data of a frame; a failed one ends the UPDATE (R214). -/
def sendData (payload : List Byte) (s : State) : State :=
  if s.env.peek.fails then (s.emitData payload).trap .transport else s.emitData payload

/-- The event of FRAME(op, payload) that is due: `Cmd` first, then `Data` unless the payload is empty (R71, R214). -/
def sendFrame (op : Byte) (payload : List Byte) (s : State) : State :=
  if payload.isEmpty then sendCmd op false s
  else
    match s.beat with
    | .first => sendCmd op true s
    | .second => sendData payload s

/-- What a frame's payload is assembled from, read from the state (R94). -/
def State.frameOperands (s : State) : FrameOperands where
  rows := s.regs.rows
  cols := s.regs.cols
  border := s.regs.border
  profile := s.regs.profile
  lut := romLut s.params.lut s.regs.lutsel
  pa := s.pa
  pb := s.pb

/-- A host operation as an instruction (R93). -/
def HostOp.toInstr : HostOp → Instr
  | .configure w h p b fh fv id => .configure w h p b fh fv id
  | .setborder c => .setborder c
  | .setpixel x y c => .setpixel x y c
  | .loadframe r => .loadframe r
  | .update wait => .update wait

/-- A meaning that always answers a next state. -/
abbrev Result := Host.Outcome State Fault Refusal

/-- The gate of every host operation: refused while an UPDATE is in flight (R34, R76). -/
def whenIdle (s : State) (go : Result) : Result :=
  if s.inflight then .refused .updateInFlight else go

/-- The further gate of every host operation but CONFIGURE: refused before a configuration exists (R32). -/
def whenConfigured (s : State) (go : Result) : Result :=
  whenIdle s (if s.cfgv then go else .refused .notConfigured)

end Sys2Proof.Machine
end

