-- ==== Sys2Proof/Machine/Frames.lean ====
section
/-! DEFINITION. The 24 frames of the register ROM (45_register_rom.md R240 to R265), each one FRAME of R214 with its opcode and its
payload. "Flags written: none, for every frame: a frame changes only the trace and the panel"; exceptions: TransportError only. A
frame with a condition sends nothing where the condition is false (R251, R252, R253, R265). A step is one event (R7): a meaning emits
the event of its frame that is due, the command first and then the data. A meaning does not ask whether an UPDATE
is in flight: log entry 13. -/

namespace Sys2Proof.Machine

/-- SWRESET (R240). -/
def execSwreset (s : State) : Result := .next (sendFrame s.params.op.swreset [] s)

/-- ANALOG_BLOCK (R241). -/
def execAnalogBlock (s : State) : Result := .next (sendFrame Config.opAnalog [Config.kAnalog] s)

/-- DIGITAL_BLOCK (R242). -/
def execDigitalBlock (s : State) : Result := .next (sendFrame Config.opDigital [Config.kDigital] s)

/-- GATE_SETTING (R243). -/
def execGateSetting (s : State) : Result := .next (sendFrame s.params.op.gateSet (gateSettingBytes s.regs.rows) s)

/-- GATE_VOLT (R244). -/
def execGateVolt (s : State) : Result := .next (sendFrame s.params.op.gateVolt [s.params.k.gateVolt] s)

/-- SOURCE_VOLT (R245). -/
def execSourceVolt (s : State) : Result := .next (sendFrame s.params.op.srcVolt s.params.k.srcVolt.toList s)

/-- DUMMY_LINE (R246). -/
def execDummyLine (s : State) : Result := .next (sendFrame s.params.op.dummy [s.params.k.dummy] s)

/-- GATE_WIDTH (R247). -/
def execGateWidth (s : State) : Result := .next (sendFrame s.params.op.gateWidth [s.params.k.gateWidth] s)

/-- DATA_ENTRY (R248). -/
def execDataEntry (s : State) : Result := .next (sendFrame s.params.op.dataEntry [s.params.k.dataEntry] s)

/-- VCOM (R249). -/
def execVcom (s : State) : Result := .next (sendFrame s.params.op.vcom [s.params.k.vcom] s)

/-- BORDER_DEFAULT (R250). -/
def execBorderDefault (s : State) : Result := .next (sendFrame s.params.op.border [s.params.k.borderDefault] s)

/-- BORDER_MATCH: the pattern of the arm that matches, no frame if none does (R251). -/
def execBorderMatch (s : State) : Result :=
  .next (match matchedBorder s with
    | some pattern => sendFrame s.params.op.border [pattern] s
    | none => s)

/-- SOURCE_VOLT_Y: only under profile yellow (R252). -/
def execSourceVoltY (s : State) : Result :=
  .next (if s.regs.profile = .yellow then sendFrame s.params.op.srcVolt s.params.k.srcVoltYellow.toList s else s)

/-- SOURCE_VOLT_R: only under profile red at `RED_OVERRIDE_RES` (R253). -/
def execSourceVoltR (s : State) : Result :=
  .next (if redAtOverrideRes s then sendFrame s.params.op.srcVolt s.params.k.srcVoltRed.toList s else s)

/-- LUT_LOAD: the 70 bytes of the selected LUT (R256). -/
def execLutLoad (s : State) : Result :=
  .next (sendFrame s.params.op.lut (romLut s.params.lut s.regs.lutsel).bytes s)

/-- RAM_X_WINDOW (R257). -/
def execRamXWindow (s : State) : Result := .next (sendFrame s.params.op.ramX (ramXWindowBytes s.regs.cols) s)

/-- RAM_Y_WINDOW (R258). -/
def execRamYWindow (s : State) : Result := .next (sendFrame s.params.op.ramY (ramYWindowBytes s.regs.rows) s)

/-- RAM_X_PTR (R259). -/
def execRamXPtr (s : State) : Result := .next (sendFrame s.params.op.xptr ramXPtrBytes s)

/-- RAM_Y_PTR (R260). -/
def execRamYPtr (s : State) : Result := .next (sendFrame s.params.op.yptr ramYPtrBytes s)

/-- RAM_WRITE_A (R261). -/
def execRamWriteA (s : State) : Result := .next (sendFrame s.params.op.ramA s.pa s)

/-- RAM_WRITE_B (R262). -/
def execRamWriteB (s : State) : Result := .next (sendFrame s.params.op.ramB s.pb s)

/-- UPDATE_CTRL (R263). -/
def execUpdateCtrl (s : State) : Result := .next (sendFrame s.params.op.updCtrl [s.params.k.updCtrl] s)

/-- ACTIVATE (R264). -/
def execActivate (s : State) : Result := .next (sendFrame s.params.op.activate [] s)

/-- DEEP_SLEEP: only when `WAIT` = 1 (R265). -/
def execDeepSleep (s : State) : Result :=
  .next (if s.wait then sendFrame Config.opSleep [Config.kSleep] s else s)

end Sys2Proof.Machine
end

