-- ==== Sys2Proof/Machine/Packer.lean ====
section
/-! DEFINITION. The bit-plane packer PACK and its stages FLIPV, FLIPH, ROTATE, FLATTEN, ENCODE_A, ENCODE_B, BITPACK
(42_plane_packer.md R160 to R170). -/

namespace Sys2Proof.Machine

/-- A grid of cells, `cell y x` in row `y` and column `x`. A value of the packer's stages, never state. -/
structure Grid where
  rows : Nat
  cols : Nat
  cell : Nat → Nat → Byte

/-- G0: the frame store as H rows of W cells (R160). -/
def storeGrid (s : State) : Grid := ⟨s.regs.h, s.regs.w, fun y x => s.fs.read (s.cellAddress x y)⟩

/-- FLIPV: the order of the rows is reversed (R161). -/
def flipV (on : Bool) (g : Grid) : Grid :=
  if on then { g with cell := fun y x => g.cell (g.rows - 1 - y) x } else g

/-- FLIPH: the order of the columns is reversed (R162). -/
def flipH (on : Bool) (g : Grid) : Grid :=
  if on then { g with cell := fun y x => g.cell y (g.cols - 1 - x) } else g

/-- ROTATE: nothing, or one quarter turn clockwise (R163). -/
def rotate : Rot → Grid → Grid
  | .rot0, g => g
  | .rotM90, g => ⟨g.cols, g.rows, fun i j => g.cell (g.rows - 1 - j) i⟩

/-- FLATTEN: the transmit-ready pixel stream, row-major (R164). -/
def flatten (g : Grid) (k : Nat) : Byte := g.cell (k / g.cols) (k % g.cols)

/-- G3: stages 1 to 3 of PACK (R160). -/
def orient (s : State) : Grid := rotate s.regs.rot (flipH s.regs.hflip (flipV s.regs.vflip (storeGrid s)))

/-- The pixel stream `P` of PACK (R160, R164). -/
def pixelStream (s : State) (k : Nat) : Byte := flatten (orient s) k

/-- ENCODE_A: bit 0 where the pixel is BLACK (R166). -/
def encodeA (pixel : Byte) : Bool := !(pixel == Color.black.cell)

/-- ENCODE_B: bit 1 where the pixel is ACCENT (R167). -/
def encodeB (pixel : Byte) : Bool := pixel == Color.accent.cell

/-- One plane byte: the sum over i of bit i times 2^(7-i) (R168). -/
def packByte (bit : Nat → Bool) : Byte :=
  BitVec.ofNat 8 (((List.range 8).map (fun i => if bit i then 2 ^ (7 - i) else 0)).sum)

/-- BITPACK of a stream of `n` bits: most significant bit first, pad bits 0 (R168). -/
def bitpack (n : Nat) (bit : Nat → Bool) : List Byte :=
  (List.range ((n + 7) / 8)).map (fun j => packByte (fun i => decide (8 * j + i < n) && bit (8 * j + i)))

/-- The monochrome plane of the frame store (R160, R166). -/
def planeA (s : State) : List Byte := bitpack s.cellCount (fun k => encodeA (pixelStream s k))

/-- The accent plane of the frame store (R160, R167). -/
def planeB (s : State) : List Byte := bitpack s.cellCount (fun k => encodeB (pixelStream s k))

/-- PACK writes the two plane buffers and nothing else (R160). -/
def State.packed (s : State) : State := { s with pa := planeA s, pb := planeB s }

/-- PACK (R160). -/
def execPack (s : State) : Result := .next s.packed

end Sys2Proof.Machine
end

