-- ==== Sys2Proof/Machine/HostOps.lean ====
section
/-! DEFINITION. The host operations CONFIGURE, SETBORDER (40_configure.md), SETPIXEL, LOADFRAME (41_framebuffer.md) and UPDATE
(44_sequencer.md R201). An exception raised outside UPDATE is taken as R295 says: the operation ends, nothing is changed, the
caller receives the exception. -/

namespace Sys2Proof.Machine

/-- What CONFIGURE writes on success (R120). -/
def State.configured (e : ResEntry) (prof : Profile) (border : BitVec 2) (fh fv : Bool) (id : Option IdentityRecord)
    (s : State) : State :=
  { s with
    regs :=
      { w := e.w, h := e.h, cols := e.cols, rows := e.rows, rot := e.rot, profile := prof,
        lutsel := lutselFn s.params prof id, border := borderAfter s.regs.border border, hflip := fh, vflip := fv },
    fs := [], cfgv := true }

/-- CONFIGURE: three checks in the order resolution, profile, identity, then the writes (R120, R292). -/
def execConfigure (w h : Nat) (name : String) (border : BitVec 2) (fh fv : Bool) (id : Option IdentityRecord) (s : State) :
    Result :=
  whenIdle s <|
    match romRes s.params w h, profileOfName name with
    | none, _ => .next (s.reply (.unsupportedResolution w h))
    | some _, none => .next (s.reply (.unsupportedProfile name))
    | some e, some prof =>
      match id with
      | none => .next ((s.configured e prof border fh fv none).reply .ok)
      | some r =>
        if identityMatches w h (some r) then .next ((s.configured e prof border fh fv (some r)).reply .ok)
        else .next (s.reply (.identityMismatch r.width r.height))

/-- SETBORDER (R126). -/
def execSetborder (c : BitVec 2) (s : State) : Result :=
  whenConfigured s <|
    .next (State.reply .ok { s with regs := { s.regs with border := borderAfter s.regs.border c } })

/-- The coordinates are inside the store (R140). -/
def inBounds (x y : Int) (s : State) : Bool := 0 ≤ x && x < s.regs.w && 0 ≤ y && y < s.regs.h

/-- SETPIXEL: the colour is tested first, then the bounds (R140, R292). Coordinates outside raise BoundsFault: log entry 14. -/
def execSetpixel (x y : Int) (c : Byte) (s : State) : Result :=
  whenConfigured s <|
    if !validColor c then .next (s.reply .ok)
    else if !inBounds x y s then .next (s.reply (.boundsFault x y))
    else .next (State.reply .ok { s with fs := s.fs.write (s.cellAddress x.toNat y.toNat) c })

/-- LOADFRAME: the whole store, unfiltered; a raster of the wrong length is refused (R143). -/
def execLoadframe (raster : List Byte) (s : State) : Result :=
  whenConfigured s <|
    if raster.length = s.cellCount then .next (State.reply .ok { s with fs := Memory.ofCells 0 raster })
    else .refused (.rasterLength raster.length s.cellCount)

/-- UPDATE: the acceptance (R201). The planes are packed from the store as it is now (R75); the register ROM is then walked one event
a step by Machine/Sequencer.lean, which also gives the caller its result. -/
def execUpdate (wait : Bool) (s : State) : Result :=
  whenConfigured s <| .next (s.accept wait).packed

end Sys2Proof.Machine
end

