-- ==== Sys2Proof/Machine/LutSelector.lean ====
section
/-! DEFINITION. LUTSEL (43_lut_selector.md R190 to R193): the function is `lutselFn` of Machine/Operands.lean; as an instruction it
leaves its result in the `LUTSEL` register, where CONFIGURE puts it. -/

namespace Sys2Proof.Machine

/-- DEDUCED (safe): the result of LUTSEL goes to the `LUTSEL` register and nothing else changes; R190 says the result "is written to
LUTSEL by CONFIGURE" and names no other place. Log entry 7. -/
def execLutsel (prof : Profile) (identity : Option IdentityRecord) (s : State) : Result :=
  .next { s with regs := { s.regs with lutsel := lutselFn s.params prof identity } }

end Sys2Proof.Machine
end

