-- ==== Sys2Proof/Machine/MicroOps.lean ====
section
/-! DEFINITION. The micro-operations ACQUIRE, RSTLINE, DELAY, WAITBUSY and FRAME (44_sequencer.md R210 to R214).
WAITBUSY and FRAME have two events, and a step is one (R7): each emits the event that is due. -/

namespace Sys2Proof.Machine

/-- The `Acquire` event. -/
def State.emitAcquire (s : State) : State := s.emit (fun a => .acquire a.acquire)

/-- ACQUIRE: nothing when `INIT` = 1; else open the transport, and fail, warn or succeed as the environment answers (R210). -/
def execAcquire (s : State) : Result :=
  .next (if s.init then s
    else if s.env.peek.fails then s.emitAcquire.trap .transport
    else s.emitAcquire.acquired s.env.peek.warn)

/-- The `SetLine(RESET, lvl)` event. -/
def State.emitSetLine (lvl : LineLevel) (s : State) : State := s.emit (fun a => .setLine lvl a.send)

/-- RSTLINE (R211). -/
def execRstline (lvl : LineLevel) (s : State) : Result :=
  .next (if s.env.peek.fails then (s.emitSetLine lvl).trap .transport else s.emitSetLine lvl)

/-- DELAY: an event and nothing else; it cannot fail (R212). -/
def execDelay (ms : Nat) (s : State) : Result := .next (s.record (.delay ms))

/-- The `ReadLine(BUSY)` event. -/
def State.emitReadLine (s : State) : State := s.emit (fun a => .readLine a.read)

/-- The `WaitEdge(BUSY, t)` event. -/
def State.emitWaitEdge (t : Nat) (s : State) : State := s.emit (fun a => .waitEdge t a.wait)

/-- The first event of WAITBUSY: `ReadLine`; on BUSYLVL a `WaitEdge` is due (R213). -/
def checkBusy (s : State) : State :=
  if s.env.peek.fails then s.emitReadLine.trap .transport
  else if s.env.peek.level = .ready then s.emitReadLine
  else s.emitReadLine.secondDue

/-- The second event of WAITBUSY, after BUSYLVL was read: no second `ReadLine` follows it (R213, D47). -/
def awaitEdge (t : Nat) (cause : TimeoutCause) (s : State) : State :=
  if s.env.peek.fails then (s.emitWaitEdge t).trap .transport
  else if s.env.peek.edge then s.emitWaitEdge t
  else (s.emitWaitEdge t).trap (.timeout cause)

/-- WAITBUSY: the event that is due, `ReadLine` or, when that answered BUSYLVL, `WaitEdge` (R213). -/
def execWaitbusy (t : Nat) (cause : TimeoutCause) (s : State) : Result :=
  .next (match s.beat with
    | .first => checkBusy s
    | .second => awaitEdge t cause s)

/-- FRAME: the event that is due (R214). -/
def execFrame (op : Byte) (payload : List Byte) (s : State) : Result := .next (sendFrame op payload s)

end Sys2Proof.Machine
end

