-- ==== Sys2Proof/Machine/Dispatch.lean ====
section
/-! DEFINITION. The meaning of every instruction, one arm per constructor of Instr. -/

namespace Sys2Proof.Machine

def exec (i : Instr) (s : State) : Host.Outcome State Fault Refusal :=
  match i with
  | .swreset => Sys2Proof.Machine.execSwreset s
  | .analogBlock => Sys2Proof.Machine.execAnalogBlock s
  | .digitalBlock => Sys2Proof.Machine.execDigitalBlock s
  | .gateSetting => Sys2Proof.Machine.execGateSetting s
  | .gateVolt => Sys2Proof.Machine.execGateVolt s
  | .sourceVolt => Sys2Proof.Machine.execSourceVolt s
  | .dummyLine => Sys2Proof.Machine.execDummyLine s
  | .gateWidth => Sys2Proof.Machine.execGateWidth s
  | .dataEntry => Sys2Proof.Machine.execDataEntry s
  | .vcom => Sys2Proof.Machine.execVcom s
  | .borderDefault => Sys2Proof.Machine.execBorderDefault s
  | .borderMatch => Sys2Proof.Machine.execBorderMatch s
  | .sourceVoltY => Sys2Proof.Machine.execSourceVoltY s
  | .sourceVoltR => Sys2Proof.Machine.execSourceVoltR s
  | .lutLoad => Sys2Proof.Machine.execLutLoad s
  | .ramXWindow => Sys2Proof.Machine.execRamXWindow s
  | .ramYWindow => Sys2Proof.Machine.execRamYWindow s
  | .ramXPtr => Sys2Proof.Machine.execRamXPtr s
  | .ramYPtr => Sys2Proof.Machine.execRamYPtr s
  | .ramWriteA => Sys2Proof.Machine.execRamWriteA s
  | .ramWriteB => Sys2Proof.Machine.execRamWriteB s
  | .updateCtrl => Sys2Proof.Machine.execUpdateCtrl s
  | .activate => Sys2Proof.Machine.execActivate s
  | .deepSleep => Sys2Proof.Machine.execDeepSleep s
  | .acquire => Sys2Proof.Machine.execAcquire s
  | .rstline lvl => Sys2Proof.Machine.execRstline lvl s
  | .delay ms => Sys2Proof.Machine.execDelay ms s
  | .waitbusy t cause => Sys2Proof.Machine.execWaitbusy t cause s
  | .frame op payload => Sys2Proof.Machine.execFrame op payload s
  | .configure w h name border fh fv id => Sys2Proof.Machine.execConfigure w h name border fh fv id s
  | .setborder c => Sys2Proof.Machine.execSetborder c s
  | .setpixel x y c => Sys2Proof.Machine.execSetpixel x y c s
  | .loadframe raster => Sys2Proof.Machine.execLoadframe raster s
  | .update wait => Sys2Proof.Machine.execUpdate wait s
  | .pack => Sys2Proof.Machine.execPack s
  | .lutsel prof id => Sys2Proof.Machine.execLutsel prof id s

end Sys2Proof.Machine
end

