-- ==== Sys2Proof/Machine/Rom.lean ====
section
/-! DEFINITION. The register ROM `ROM_REG` (R38, R92, R203): 34 records in the order of transitions 1 to 7. -/

namespace Sys2Proof.Machine

/-- A register-ROM entry (R92): its index, the `STATE` written when it is performed, the instruction, the condition. -/
structure RomEntry where
  index : RomIndex
  state : SeqState
  instr : Instr
  cond : Condition
  deriving DecidableEq, Repr

/-- Transitions 1 and 2: acquisition, reset line, soft reset and its wait (R203, entries 0 to 6). -/
def romReset : List RomEntry :=
  [⟨0, .resetting, .acquire, .initClear⟩,
   ⟨1, .resetting, .rstline .inactive, .always⟩,
   ⟨2, .resetting, .delay Config.tRstSettle, .always⟩,
   ⟨3, .resetting, .rstline .active, .always⟩,
   ⟨4, .resetting, .delay Config.tRstSettle, .always⟩,
   ⟨5, .softResetting, .swreset, .always⟩,
   ⟨6, .softResetting, .waitbusy Config.tSwreset .softReset, .always⟩]

/-- Transition 3: the configuration frames in strict order (R203, entries 7 to 19). -/
def romConfigure : List RomEntry :=
  [⟨7, .configuring, .analogBlock, .always⟩,
   ⟨8, .configuring, .digitalBlock, .always⟩,
   ⟨9, .configuring, .gateSetting, .always⟩,
   ⟨10, .configuring, .gateVolt, .always⟩,
   ⟨11, .configuring, .sourceVolt, .always⟩,
   ⟨12, .configuring, .dummyLine, .always⟩,
   ⟨13, .configuring, .gateWidth, .always⟩,
   ⟨14, .configuring, .dataEntry, .always⟩,
   ⟨15, .configuring, .vcom, .always⟩,
   ⟨16, .configuring, .borderDefault, .always⟩,
   ⟨17, .configuring, .borderMatch, .borderMatches⟩,
   ⟨18, .configuring, .sourceVoltY, .profileYellow⟩,
   ⟨19, .configuring, .sourceVoltR, .redAtOverride⟩]

/-- Transitions 4 and 5: the LUT, the RAM window, and the two planes (R203, entries 20 to 28). -/
def romPlanes : List RomEntry :=
  [⟨20, .lutLoaded, .lutLoad, .always⟩,
   ⟨21, .ramWritten, .ramXWindow, .always⟩,
   ⟨22, .ramWritten, .ramYWindow, .always⟩,
   ⟨23, .ramWritten, .ramXPtr, .always⟩,
   ⟨24, .ramWritten, .ramYPtr, .always⟩,
   ⟨25, .ramWritten, .ramWriteA, .always⟩,
   ⟨26, .ramWritten, .ramXPtr, .always⟩,
   ⟨27, .ramWritten, .ramYPtr, .always⟩,
   ⟨28, .ramWritten, .ramWriteB, .always⟩]

/-- Transitions 6 and 7: the trigger, and the wait and deep sleep of a waited UPDATE (R203, entries 29 to 33). -/
def romTrigger (p : Params) : List RomEntry :=
  [⟨29, .triggered, .updateCtrl, .always⟩,
   ⟨30, .triggered, .activate, .always⟩,
   ⟨31, .triggered, .delay Config.tTrigSettle, .always⟩,
   ⟨32, .busy, .waitbusy p.tRefresh .refresh, .waitSet⟩,
   ⟨33, .sleeping, .deepSleep, .waitSet⟩]

/-- `ROM_REG` (R203). Only the refresh timeout depends on a parameter (R301). -/
def romReg (p : Params) : List RomEntry := romReset ++ romConfigure ++ romPlanes ++ romTrigger p

theorem romReg_length (p : Params) : (romReg p).length = 34 := rfl

/-- `ROM_REG(k)` (R11). -/
def romEntry (p : Params) (k : RomIndex) : RomEntry :=
  (romReg p)[k.val]'(by rw [romReg_length]; exact k.isLt)

end Sys2Proof.Machine
end

