-- ==== Sys2Proof/Machine/Sequencer.lean ====
section
/-! DEFINITION. What a step does: while an UPDATE is in flight, the next event of the register ROM (the loop of R201, one event a step:
R7); otherwise the next host operation of the one caller (R73), or nothing when there is none (R320). The turns of the loop that emit
no event, skipping an entry and returning OK, belong to the step of the event or of the acceptance before them: log entry 8. -/

namespace Sys2Proof.Machine

/-- The register-ROM entry fetched at `STEP` (R11, R30). -/
def State.fetch (s : State) : RomEntry := romEntry s.params s.step

/-- The loop of R201 over the entries given, up to the next one whose condition holds, which `STEP` then names; with none left the
UPDATE returns OK. -/
def skipTo : List RomEntry → State → State
  | [], s => s.finish
  | e :: es, s => if e.cond.holds s then { s with step := e.index } else skipTo es s

/-- On to the first entry from `STEP` on that is performed (R201). -/
def State.settled (s : State) : State := skipTo ((romReg s.params).drop s.step.val) s

/-- `STEP <- STEP + 1`, and on to the next entry that is performed (R201, R30). -/
def State.advance (s : State) : State := skipTo ((romReg s.params).drop (s.step.val + 1)) s

/-- After an event: `STEP` advances when the entry has no further event due, unless the entry raised and the UPDATE is over (R201,
R295). -/
def State.goOn (s : State) : State :=
  if s.inflight && s.beat = .first then s.advance else s

/-- After a host operation: an accepted UPDATE moves to the first entry that is performed (R201). -/
def State.begun (s : State) : State := if s.inflight then s.settled else s

/-- Continue a result that is a next state. -/
def thenState (go : State → State) : Result → Result
  | .next t => .next (go t)
  | .fault f => .fault f
  | .refused r => .refused r

/-- The event that is due (R201): the entry writes `STATE` and is performed. An entry at `STEP` whose condition is false, where no
UPDATE ever stands, is passed over. -/
def runEntry (s : State) : Result :=
  if s.fetch.cond.holds s then thenState State.goOn (exec s.fetch.instr { s with state := s.fetch.state })
  else .next s.settled

/-- The caller's next host operation; with none the block does nothing (R320, R322). DEDUCED (safe): log
entry 11. -/
def runCall (s : State) : Result :=
  match s.calls with
  | [] => .next s
  | op :: rest => thenState State.begun (exec op.toInstr { s with calls := rest })

end Sys2Proof.Machine
end

