-- ==== Sys2Proof/Machine/Step.lean ====
section
/-! DEFINITION. The step of the machine, and the state in which a given frame of the opcode table is the next thing it runs. -/

namespace Sys2Proof.Machine

/-- One step (R7, R73): the next event of the UPDATE in flight, or the caller's next operation when there is none. -/
def step (s : State) : Host.Outcome State Fault Refusal :=
  if s.inflight then runEntry s else runCall s

/-- The register ROM is fixed, so an instruction is not stored but selected: an UPDATE is in flight and `STEP` is the instruction's
first entry, its first event due. DEEP_SLEEP is performed only when `WAIT` = 1 (R265). Log entry 6. -/
def State.selectEntry (s : State) (i : Instr) : State :=
  match entriesOf i with
  | [] => s
  | k :: _ => { s with inflight := true, step := k, beat := .first, wait := if i = .deepSleep then true else s.wait }

/-- The state whose very next step runs the instruction of a table word; a word that is no frame changes nothing. -/
def State.withFetchWord (s : State) (nbits w : Nat) : State :=
  match decodeTableWord nbits w with
  | none => s
  | some i => s.selectEntry i

end Sys2Proof.Machine
end

