-- ==== Sys2Proof/Safety.lean ====
section
/-! DEFINITION. The terms claims are stated in: several steps, the loop of UPDATE as R201 writes it, the trace of a completed UPDATE
(R203), the environments in which nothing fails, and the invariant every step keeps. -/

namespace Sys2Proof.Machine

/-- `n` steps, stopping at the first refusal. -/
def runSteps : Nat → State → Result
  | 0, s => .next s
  | n + 1, s =>
    match step s with
    | .next t => runSteps n t
    | .fault f => .fault f
    | .refused r => .refused r

/-- What the due event of an instruction leaves when it answers a next state; the state it started from otherwise. -/
def once (i : Instr) (s : State) : State :=
  match exec i s with
  | .next t => t
  | .fault _ => s
  | .refused _ => s

/-- A whole instruction, as the rules of the micro-operations write it: the event that is due, and the second one if it is due then
(R213, R214). -/
def perform (i : Instr) (s : State) : State :=
  if (once i s).beat = .second then once i (once i s) else once i s

/-- The loop of UPDATE as R201 writes it, over the entries still to come: write `STATE` and perform an entry whose condition holds,
skip any other, add one to `STEP`; end at once when an entry raised; after the last entry return OK. -/
def updateLoop : List RomEntry → State → State
  | [], s => { s with step := 0, inflight := false, results := s.results ++ [.ok] }
  | e :: es, s =>
    if e.cond.holds s then
      if (perform e.instr { s with state := e.state }).inflight then
        updateLoop es { perform e.instr { s with state := e.state } with step := s.step + 1 }
      else perform e.instr { s with state := e.state }
    else updateLoop es { s with step := s.step + 1 }

/-- The entries from `STEP` on. -/
def State.entriesLeft (s : State) : List RomEntry := (romReg s.params).drop s.step.val

/-- The next `n` events do not fail. -/
abbrev Env.Grants (e : Env) (n : Nat) : Prop := ∀ k, k < n → (e.answer k).fails = false

/-- The next `n` events do not fail and a `ReadLine` among them finds the busy line READY. -/
abbrev Env.GrantsReady (e : Env) (n : Nat) : Prop :=
  ∀ k, k < n → (e.answer k).fails = false ∧ (e.answer k).level = .ready

/-- The state after events that each used one answer up, the first event of an entry due, and nothing else changed. -/
def State.afterEvents (evs : List Event) (s : State) : State :=
  { s with tr := s.tr ++ evs, env := s.env.drop evs.length, beat := .first }

/-- An instruction that emits a command and then its data, when neither fails: it emits each when it is due, and changes nothing else
(R214, R7). -/
structure SendsFrame (i : Instr) (op : Byte) (payload : List Byte) (s : State) : Prop where
  command : s.beat = .first → exec i s = .next (s.afterEvents [.cmd op .done]).secondDue
  data : s.beat = .second → exec i s = .next (s.afterEvents [.data payload .done])

/-- An event the environment failed (R286). -/
def Event.failed : Event → Bool
  | .acquire .fail | .setLine _ .failed | .cmd _ .failed | .data _ .failed | .readLine .failed | .waitEdge _ .failed => true
  | .acquire .ok | .acquire .warn | .setLine _ .done | .delay _ | .cmd _ .done | .data _ .done | .readLine (.level _)
  | .waitEdge _ (.edge _) => false

/-- The events a step appended. -/
def newEvents (s t : State) : List Event := t.tr.drop s.tr.length

/-- The two events of a frame that succeeds (R90, R214); one when the payload is empty. -/
def sentFrame (op : Byte) : List Byte → List Event
  | [] => [.cmd op .done]
  | b :: bs => [.cmd op .done, .data (b :: bs) .done]

/-- Transitions 1 and 2 of an UPDATE that meets no failure and a READY busy line (R203, entries 0 to 6). -/
def resetEvents (s : State) : List Event :=
  (if s.init then [] else [.acquire s.env.peek.acquire]) ++
  [.setLine .inactive .done, .delay 100, .setLine .active .done, .delay 100, .cmd s.params.op.swreset .done,
   .readLine (.level .ready)]

/-- Transition 3 (R203, entries 7 to 19). -/
def configureEvents (s : State) : List Event :=
  sentFrame 0x74 [0x54] ++ sentFrame 0x7E [0x3B] ++
  sentFrame s.params.op.gateSet (gateSettingBytes s.regs.rows) ++
  sentFrame s.params.op.gateVolt [s.params.k.gateVolt] ++
  sentFrame s.params.op.srcVolt s.params.k.srcVolt.toList ++
  sentFrame s.params.op.dummy [s.params.k.dummy] ++
  sentFrame s.params.op.gateWidth [s.params.k.gateWidth] ++
  sentFrame s.params.op.dataEntry [s.params.k.dataEntry] ++
  sentFrame s.params.op.vcom [s.params.k.vcom] ++
  sentFrame s.params.op.border [s.params.k.borderDefault] ++
  (match borderPattern s.params.k s.regs.border s.regs.profile with
    | some b => sentFrame s.params.op.border [b]
    | none => []) ++
  (if s.regs.profile = .yellow then sentFrame s.params.op.srcVolt s.params.k.srcVoltYellow.toList else []) ++
  (if s.regs.profile = .red ∧ (s.regs.w, s.regs.h) = s.params.redOverrideRes then
    sentFrame s.params.op.srcVolt s.params.k.srcVoltRed.toList else [])

/-- Transitions 4 and 5, with the planes of the frame store as it is in `s` (R203, entries 20 to 28). -/
def planeEvents (s : State) : List Event :=
  sentFrame s.params.op.lut (romLut s.params.lut s.regs.lutsel).bytes ++
  sentFrame s.params.op.ramX (ramXWindowBytes s.regs.cols) ++
  sentFrame s.params.op.ramY (ramYWindowBytes s.regs.rows) ++
  sentFrame s.params.op.xptr [0] ++ sentFrame s.params.op.yptr [0, 0] ++ sentFrame s.params.op.ramA (planeA s) ++
  sentFrame s.params.op.xptr [0] ++ sentFrame s.params.op.yptr [0, 0] ++ sentFrame s.params.op.ramB (planeB s)

/-- Transitions 6 and 7 (R203, entries 29 to 33): the wait and the deep sleep only when the caller waits. -/
def triggerEvents (wait : Bool) (s : State) : List Event :=
  sentFrame s.params.op.updCtrl [s.params.k.updCtrl] ++ [.cmd s.params.op.activate .done, .delay 50] ++
  (if wait then [.readLine (.level .ready), .cmd 0x10 .done, .data [0x01] .done] else [])

/-- The whole trace of an UPDATE issued in `s` that meets no failure and a READY busy line (R203; 95_test_vectors.md P1). -/
def updateEvents (wait : Bool) (s : State) : List Event :=
  resetEvents s ++ configureEvents s ++ planeEvents s ++ triggerEvents wait s

/-! ### The invariant -/

/-- The register file holds an entry of `RES_TABLE` (R22, R120). -/
def geometryFrom (p : Params) (r : Regs) : Prop :=
  ∃ e ∈ p.resTable, e.w = r.w ∧ e.h = r.h ∧ e.cols = r.cols ∧ e.rows = r.rows ∧ e.rot = r.rot

/-- `STATE` when entry `k` is about to be performed (R204), for `2 ≤ k`: entry 1 has written it whether or not entry 0 was skipped. -/
def stateBefore (k : Nat) : SeqState :=
  if k ≤ 5 then .resetting
  else if k ≤ 7 then .softResetting
  else if k ≤ 20 then .configuring
  else if k ≤ 21 then .lutLoaded
  else if k ≤ 29 then .ramWritten
  else if k ≤ 32 then .triggered
  else .busy

/-- Before the first successful CONFIGURE nothing has happened to the block (R32, R46). -/
structure Unconfigured (s : State) : Prop where
  state : s.state = .uninitialized
  init : s.init = false
  inflight : s.inflight = false
  store : s.fs = []
  trace : s.tr = []
  border : s.regs.border = .white

/-- Between operations (R30, R35, R200): `STEP` is 0, no second event is due, `STATE` is one of the four resting states, and it is
ERROR exactly when `ERR` holds a cause, whose step it is. -/
structure AtRest (s : State) : Prop where
  step : s.step = 0
  beat : s.beat = .first
  resting : s.state = .uninitialized ∨ s.state = .triggered ∨ s.state = .sleeping ∨ s.state = .error
  error : s.state = .error ↔ s.err ≠ .none
  noError : s.err = .none → s.errstep = 0
  softReset : s.err = .timeoutSoftReset → s.errstep = 6
  refresh : s.err = .timeoutRefresh → s.errstep = 32

/-- The instructions of the register ROM that may have a second event: a wait, and a frame whose payload is not empty (R213, R214). -/
def hasSecondEvent : Instr → Bool
  | .waitbusy _ _ => true
  | i => !(entriesOf i).isEmpty && !payloadLengthOk i 0

/-- While an UPDATE is in flight (R34, R40, R201, R204): a configuration exists, no cause is recorded, the planes have the plane
length, the transport is acquired once entry 0 is past, `STEP` names an entry that is performed, `STATE` follows `STEP`, and a second
event is due only in an entry that has one and has begun. -/
structure InFlight (s : State) : Prop where
  configured : s.cfgv = true
  err : s.err = .none
  errstep : s.errstep = 0
  planeA : s.pa.length = planeLength s.regs.cols s.regs.rows
  planeB : s.pb.length = planeLength s.regs.cols s.regs.rows
  acquired : 1 ≤ s.step.val → s.init = true
  performed : (romEntry s.params s.step).cond.holds s = true
  state : s.beat = .first → 2 ≤ s.step.val → s.state = stateBefore s.step.val
  second : s.beat = .second →
    hasSecondEvent (romEntry s.params s.step).instr = true ∧ s.state = (romEntry s.params s.step).state

/-- The invariant of the machine. -/
structure Inv (s : State) : Prop where
  params : s.params.valid = true
  canonical : s.fs.wf
  bounded : ∀ c ∈ s.fs, c.1 < s.cellCount
  geometry : s.cfgv = true → geometryFrom s.params s.regs
  unconfigured : s.cfgv = false → Unconfigured s
  rest : s.inflight = false → AtRest s
  flight : s.inflight = true → InFlight s

end Sys2Proof.Machine
end

