-- ==== Sys2Proof/Certificates/Slice0/Obligations.lean ====
section
/-! DEFINITION. The statements for the provers. Every statement holds for every value of the parameters State holds (R8), for every
answer of the environment it does not name, and in states no run reaches unless it says otherwise. A step is one event (R7); which
event of an entry is due, `beat`, is the model's own field (log entry 8). -/

open Sys2Proof Sys2Proof.Machine

/-! ### Encoding -/

/-- A few words of the opcode table decode to their frames (R90, R96). The opcodes 0x12, 0x44 and 0x3C are defaults (log entry 2). -/
def Obligations.SomeFrameWordsDecode : Prop :=
  decode Config.defaultOpcodes none [.cmd 0x74, .data [0x54], .cmd 0x7E] = .ok ⟨.analogBlock, [0x54], [.cmd 0x7E]⟩ ∧
  decode Config.defaultOpcodes none [.cmd 0x10, .data [0x01]] = .ok ⟨.deepSleep, [0x01], []⟩ ∧
  decode Config.defaultOpcodes none [.cmd 0x12, .cmd 0x74] = .ok ⟨.swreset, [], [.cmd 0x74]⟩ ∧
  decode Config.defaultOpcodes none [.cmd 0x44, .data [0x00, 0x31]] = .ok ⟨.ramXWindow, [0x00, 0x31], []⟩ ∧
  decode Config.defaultOpcodes (some 17) [.cmd 0x3C, .data [0x31]] = .ok ⟨.borderMatch, [0x31], []⟩

/-- Decoding the words of a frame gives the frame and its payload back, at every ROM entry where it stands, for all pairwise distinct
opcodes and whatever follows that is not data (R90, R95, R100); without the ROM entry too, but for the three frames that share an
opcode with an earlier one: that BORDER_DEFAULT and SOURCE_VOLT are what a shared opcode reads as then is the model's choice (log
entry 6). A plane has at least one byte (R261). -/
def Obligations.DecodeOfEncodeIsTheFrame : Prop :=
  ∀ (p : Params) (o : FrameOperands) (i : Instr) (k : RomIndex) (ws rest : List BusWord),
    opcodesDistinct p.op = true → k ∈ entriesOf i → encode p o i = some ws →
    (i = .ramWriteA → o.pa ≠ []) → (i = .ramWriteB → o.pb ≠ []) → (∀ bs, rest.head? ≠ some (.data bs)) →
    ∃ payload, payloadOf p.k o i = some payload ∧
      decode p.op (some k) (ws ++ rest) = .ok ⟨i, payload, rest⟩ ∧
      (i ≠ .borderMatch → i ≠ .sourceVoltY → i ≠ .sourceVoltR →
        decode p.op none (ws ++ rest) = .ok ⟨i, payload, rest⟩)

/-- Whatever decodes is a frame: one command that is the opcode of the instruction and one of the 21, then its payload, of a length the
instruction has, as one data word or none (R90, R91, R95). -/
def Obligations.DecodedWordsAreOneFrame : Prop :=
  ∀ (op : OpcodeParams) (entry : Option RomIndex) (ws : List BusWord) (d : Decoded),
    decode op entry ws = .ok d →
    ∃ b, ws = frameWords b d.payload ++ d.rest ∧ opcodeOf op d.instr = some b ∧ b ∈ opcodes op ∧
      payloadLengthOk d.instr d.payload.length = true

/-- A command byte that is none of the 21 opcodes is rejected by name, never read as another frame (R99). -/
def Obligations.UnlistedOpcodeIsRejected : Prop :=
  ∀ (op : OpcodeParams) (entry : Option RomIndex) (b : Byte) (ws : List BusWord),
    b ∉ opcodes op → (∀ rest, ws ≠ .data [] :: rest) → decode op entry (.cmd b :: ws) = .error (.unknownOpcode b)

/-! ### Frames -/

/-- The frames with a constant payload send their opcode and then that constant, one event each time they are performed, and change
nothing but the trace (R241, R242, R244 to R250, R259, R260, R263), when the event does not fail. Which event is due is the model's
field (log entry 8). -/
def Obligations.ConstantFramesSendTheirConstants : Prop :=
  ∀ s : State, s.env.Grants 1 →
    SendsFrame .analogBlock 0x74 [0x54] s ∧
    SendsFrame .digitalBlock 0x7E [0x3B] s ∧
    SendsFrame .gateVolt s.params.op.gateVolt [s.params.k.gateVolt] s ∧
    SendsFrame .sourceVolt s.params.op.srcVolt s.params.k.srcVolt.toList s ∧
    SendsFrame .dummyLine s.params.op.dummy [s.params.k.dummy] s ∧
    SendsFrame .gateWidth s.params.op.gateWidth [s.params.k.gateWidth] s ∧
    SendsFrame .dataEntry s.params.op.dataEntry [s.params.k.dataEntry] s ∧
    SendsFrame .vcom s.params.op.vcom [s.params.k.vcom] s ∧
    SendsFrame .borderDefault s.params.op.border [s.params.k.borderDefault] s ∧
    SendsFrame .ramXPtr s.params.op.xptr [0x00] s ∧
    SendsFrame .ramYPtr s.params.op.yptr [0x00, 0x00] s ∧
    SendsFrame .updateCtrl s.params.op.updCtrl [s.params.k.updCtrl] s

/-- SWRESET and ACTIVATE send their opcode and no data event (R240, R264). -/
def Obligations.BareCommandsSendNoData : Prop :=
  ∀ s : State, s.env.Grants 1 →
    exec .swreset s = .next (s.afterEvents [.cmd s.params.op.swreset .done]) ∧
    exec .activate s = .next (s.afterEvents [.cmd s.params.op.activate .done])

/-- The frames assembled from the geometry send their opcode and then: the gate height ROWS, low byte first, and a zero; the X window
0 to COLS div 8 - 1; the Y window 0 to ROWS - 1, low byte first (R243, R257, R258, R94). Which event is due is the model's field (log
entry 8). -/
def Obligations.GeometryFramesSendTheGeometry : Prop :=
  ∀ s : State, s.env.Grants 1 → 8 ≤ s.regs.cols → s.regs.cols ≤ 2048 → 1 ≤ s.regs.rows → s.regs.rows ≤ 65535 →
    (∃ lo hi : Byte, lo.toNat = s.regs.rows % 256 ∧ hi.toNat = s.regs.rows / 256 ∧
      SendsFrame .gateSetting s.params.op.gateSet [lo, hi, 0x00] s) ∧
    (∃ last : Byte, last.toNat = s.regs.cols / 8 - 1 ∧ SendsFrame .ramXWindow s.params.op.ramX [0x00, last] s) ∧
    (∃ lo hi : Byte, lo.toNat = (s.regs.rows - 1) % 256 ∧ hi.toNat = (s.regs.rows - 1) / 256 ∧
      SendsFrame .ramYWindow s.params.op.ramY [0x00, 0x00, lo, hi] s)

/-- LUT_LOAD sends the 70 bytes of the table LUTSEL names, 35 voltage bytes and then 35 timing bytes, as one data event after its
command (R256, R37). Which event is due is the model's field (log entry 8). -/
def Obligations.LutLoadSendsSeventyBytes : Prop :=
  ∀ s : State, s.env.Grants 1 → ∀ table : LutTable,
    (s.regs.lutsel = .black → table = s.params.lut.black) → (s.regs.lutsel = .red → table = s.params.lut.red) →
    (s.regs.lutsel = .redHt → table = s.params.lut.redHt) → (s.regs.lutsel = .yellow → table = s.params.lut.yellow) →
    (table.voltage.toList ++ table.timing.toList).length = 70 ∧
    SendsFrame .lutLoad s.params.op.lut (table.voltage.toList ++ table.timing.toList) s

/-- RAM_WRITE_A sends PA and RAM_WRITE_B sends PB, each as one data event after its command, whatever its length (R261, R262, R71).
That an empty plane, which no run has, sends no data is the model's choice (log entry 16); which event is due is the model's field
(log entry 8). -/
def Obligations.RamWritesSendThePlanes : Prop :=
  ∀ s : State, s.env.Grants 1 →
    (s.pa ≠ [] → SendsFrame .ramWriteA s.params.op.ramA s.pa s) ∧
    (s.pa = [] → exec .ramWriteA s = .next (s.afterEvents [.cmd s.params.op.ramA .done])) ∧
    (s.pb ≠ [] → SendsFrame .ramWriteB s.params.op.ramB s.pb s) ∧
    (s.pb = [] → exec .ramWriteB s = .next (s.afterEvents [.cmd s.params.op.ramB .done]))

/-- BORDER_MATCH sends the pattern of its four arms and nothing for (ACCENT, black) (R251). Which event is due is the model's field
(log entry 8). -/
def Obligations.BorderMatchFollowsItsArms : Prop :=
  ∀ s : State, s.env.Grants 1 →
    (s.regs.border = .black → SendsFrame .borderMatch s.params.op.border [s.params.k.borderBlack] s) ∧
    (s.regs.border = .accent → s.regs.profile = .red → SendsFrame .borderMatch s.params.op.border [s.params.k.borderRed] s) ∧
    (s.regs.border = .accent → s.regs.profile = .yellow →
      SendsFrame .borderMatch s.params.op.border [s.params.k.borderYellow] s) ∧
    (s.regs.border = .white → SendsFrame .borderMatch s.params.op.border [s.params.k.borderWhite] s) ∧
    (s.regs.border = .accent → s.regs.profile = .black → exec .borderMatch s = .next s)

/-- The source-voltage overrides are sent under profile yellow, and under profile red at RED_OVERRIDE_RES, and nowhere else (R252,
R253). Which event is due is the model's field (log entry 8). -/
def Obligations.SourceVoltageOverridesAreConditional : Prop :=
  ∀ s : State, s.env.Grants 1 →
    (s.regs.profile = .yellow → SendsFrame .sourceVoltY s.params.op.srcVolt s.params.k.srcVoltYellow.toList s) ∧
    (s.regs.profile ≠ .yellow → exec .sourceVoltY s = .next s) ∧
    (s.regs.profile = .red → (s.regs.w, s.regs.h) = s.params.redOverrideRes →
      SendsFrame .sourceVoltR s.params.op.srcVolt s.params.k.srcVoltRed.toList s) ∧
    (¬(s.regs.profile = .red ∧ (s.regs.w, s.regs.h) = s.params.redOverrideRes) → exec .sourceVoltR s = .next s)

/-- DEEP_SLEEP sends (0x10, 0x01) when WAIT = 1 and nothing when WAIT = 0 (R265). Which event is due is the model's field (log
entry 8). -/
def Obligations.DeepSleepIsSentOnlyWhenWaiting : Prop :=
  ∀ s : State, s.env.Grants 1 →
    (s.wait = true → SendsFrame .deepSleep 0x10 [0x01] s) ∧
    (s.wait = false → exec .deepSleep s = .next s)

/-- The 24 frames are instances of FRAME (R214, R90): where its condition holds, a frame does exactly what FRAME does with its opcode
and its payload, failures included. In a state with no UPDATE in flight what a failure does is the model's choice (log entry 13). -/
def Obligations.EveryFrameIsAnInstanceOfFrame : Prop :=
  ∀ (s : State) (i : Instr) (b : Byte) (bs : List Byte),
    opcodeOf s.params.op i = some b → payloadOf s.params.k s.frameOperands i = some bs →
    (i = .sourceVoltY → s.regs.profile = .yellow) →
    (i = .sourceVoltR → s.regs.profile = .red ∧ (s.regs.w, s.regs.h) = s.params.redOverrideRes) →
    (i = .deepSleep → s.wait = true) →
    exec i s = exec (.frame b bs) s

/-- FRAME emits the command and then the data, one event each time it is performed, and no data for an empty payload; a failed event is
on the trace and raises TransportError (R214, R286). In a state with no UPDATE in flight the trap is the model's choice (log
entry 13); which event is due is the model's field (log entry 8). -/
def Obligations.FrameSendsOrRaises : Prop :=
  ∀ (s : State) (op : Byte) (payload : List Byte),
    ((s.env.answer 0).fails = false → payload = [] →
      exec (.frame op payload) s = .next (s.afterEvents [.cmd op .done])) ∧
    ((s.env.answer 0).fails = false → payload ≠ [] → SendsFrame (.frame op payload) op payload s) ∧
    ((s.env.answer 0).fails = true → payload = [] ∨ s.beat = .first →
      exec (.frame op payload) s = .next ((s.afterEvents [.cmd op .failed]).trap .transport)) ∧
    ((s.env.answer 0).fails = true → payload ≠ [] → s.beat = .second →
      exec (.frame op payload) s = .next ((s.afterEvents [.data payload .failed]).trap .transport))

/-- A whole frame: performed from its first event on, each of the 24 frames and FRAME itself emits its command and then its data, one
event for an empty payload, and changes nothing else, when no event fails and its condition holds (R90, R214). -/
def Obligations.PerformedFrameSendsBothEvents : Prop :=
  ∀ (s : State) (b : Byte) (bs : List Byte), s.beat = .first → s.env.Grants (sentFrame b bs).length →
    perform (.frame b bs) s = s.afterEvents (sentFrame b bs) ∧
    ∀ i : Instr, opcodeOf s.params.op i = some b → payloadOf s.params.k s.frameOperands i = some bs →
      (i = .sourceVoltY → s.regs.profile = .yellow) →
      (i = .sourceVoltR → s.regs.profile = .red ∧ (s.regs.w, s.regs.h) = s.params.redOverrideRes) →
      (i = .deepSleep → s.wait = true) →
      perform i s = s.afterEvents (sentFrame b bs)

/-! ### Micro-operations -/

/-- ACQUIRE: nothing when INIT = 1; otherwise one Acquire event, and INIT, WARN or a TransportError by the environment's answer; a
failed acquisition leaves INIT 0. It stands at entry 0 of the register ROM (R210). In a state with no UPDATE in flight the trap is
the model's choice (log entry 13). -/
def Obligations.AcquireOpensTheTransportOnce : Prop :=
  (∀ s : State,
    (s.init = true → exec .acquire s = .next s) ∧
    (s.init = false → (s.env.answer 0).fails = false → (s.env.answer 0).warn = false →
      exec .acquire s = .next { s.afterEvents [.acquire .ok] with init := true }) ∧
    (s.init = false → (s.env.answer 0).fails = false → (s.env.answer 0).warn = true →
      exec .acquire s = .next { s.afterEvents [.acquire .warn] with init := true, warn := true }) ∧
    (s.init = false → (s.env.answer 0).fails = true →
      exec .acquire s = .next ((s.afterEvents [.acquire .fail]).trap .transport))) ∧
  ∀ (p : Params) (k : RomIndex), (romEntry p k).instr = .acquire ↔ k = 0

/-- RSTLINE drives the reset line to its level with one event, which may fail; entries 1 to 4 of the register ROM are RSTLINE
INACTIVE, DELAY 100, RSTLINE ACTIVE, DELAY 100, and no other entry is an RSTLINE (R211). In a state with no UPDATE in flight the trap
is the model's choice (log entry 13). -/
def Obligations.RstlineSetsTheLine : Prop :=
  (∀ (s : State) (lvl : LineLevel),
    ((s.env.answer 0).fails = false → exec (.rstline lvl) s = .next (s.afterEvents [.setLine lvl .done])) ∧
    ((s.env.answer 0).fails = true →
      exec (.rstline lvl) s = .next ((s.afterEvents [.setLine lvl .failed]).trap .transport))) ∧
  ∀ p : Params,
    ([1, 2, 3, 4].map fun k => (romEntry p k).instr) =
      [.rstline .inactive, .delay 100, .rstline .active, .delay 100] ∧
    ∀ (k : RomIndex) (lvl : LineLevel), (romEntry p k).instr = .rstline lvl → k = 1 ∨ k = 3

/-- DELAY emits its event and does nothing else, in every state: it cannot fail and uses no answer of the environment; it stands at
entries 2, 4 and 31 of the register ROM, with 100, 100 and 50 ms (R212). After it a first event is due, which is the model's field
(log entry 8). -/
def Obligations.DelayIsOnlyAnEvent : Prop :=
  (∀ (s : State) (ms : Nat), exec (.delay ms) s = .next { s with tr := s.tr ++ [.delay ms], beat := .first }) ∧
  ∀ (p : Params) (k : RomIndex) (ms : Nat), (romEntry p k).instr = .delay ms ↔ (k = 2 ∨ k = 4) ∧ ms = 100 ∨ k = 31 ∧ ms = 50

/-- WAITBUSY: one ReadLine, and on BUSYLVL one WaitEdge, one event each time it is performed. It passes on READY and on an edge,
without a second ReadLine; it raises TimeoutError when WaitEdge answers false and TransportError when either call fails. It stands at
entry 6 with 1.0 s and at entry 32 with T_REFRESH, each with its cause (R213). In a state with no UPDATE in flight the trap is the
model's choice (log entry 13); which event is due is the model's field (log entry 8). -/
def Obligations.WaitbusyFollowsTheBusyLine : Prop :=
  (∀ (s : State) (t : Nat) (cause : TimeoutCause),
    (s.beat = .first →
      ((s.env.answer 0).fails = true →
        exec (.waitbusy t cause) s = .next ((s.afterEvents [.readLine .failed]).trap .transport)) ∧
      ((s.env.answer 0).fails = false → (s.env.answer 0).level = .ready →
        exec (.waitbusy t cause) s = .next (s.afterEvents [.readLine (.level .ready)])) ∧
      ((s.env.answer 0).fails = false → (s.env.answer 0).level = .busy →
        exec (.waitbusy t cause) s = .next (s.afterEvents [.readLine (.level .busy)]).secondDue)) ∧
    (s.beat = .second →
      ((s.env.answer 0).fails = true →
        exec (.waitbusy t cause) s = .next ((s.afterEvents [.waitEdge t .failed]).trap .transport)) ∧
      ((s.env.answer 0).fails = false → (s.env.answer 0).edge = true →
        exec (.waitbusy t cause) s = .next (s.afterEvents [.waitEdge t (.edge true)])) ∧
      ((s.env.answer 0).fails = false → (s.env.answer 0).edge = false →
        exec (.waitbusy t cause) s = .next ((s.afterEvents [.waitEdge t (.edge false)]).trap (.timeout cause))))) ∧
  ∀ (p : Params) (k : RomIndex) (t : Nat) (cause : TimeoutCause),
    (romEntry p k).instr = .waitbusy t cause ↔
      k = 6 ∧ t = 1000 ∧ cause = .softReset ∨ k = 32 ∧ t = p.tRefresh ∧ cause = .refresh

/-! ### Host operations -/

/-- CONFIGURE with a supported resolution, a supported profile and no contradicting identity record writes the whole register file,
makes a frame store of WHITE cells and sets CFGV; it emits no event and touches nothing else (R120, R121). -/
def Obligations.ConfigureWritesTheRegisterFile : Prop :=
  ∀ (s : State) (e : ResEntry) (name : String) (prof : Profile) (c : BitVec 2) (fh fv : Bool) (id : Option IdentityRecord),
    s.inflight = false → s.params.valid = true → e ∈ s.params.resTable →
    (name, prof) ∈ [("black", Profile.black), ("red", Profile.red), ("yellow", Profile.yellow)] →
    (∀ r, id = some r → r.width = e.w ∧ r.height = e.h) →
    exec (.configure e.w e.h name c fh fv id) s =
      .next { s with
        regs :=
          { w := e.w, h := e.h, cols := e.cols, rows := e.rows, rot := e.rot, profile := prof,
            lutsel := lutselFn s.params prof id,
            border := if c = 0 then .white else if c = 1 then .black else if c = 2 then .accent else s.regs.border,
            hflip := fh, vflip := fv },
        fs := [], cfgv := true, results := s.results ++ [.ok] } ∧
    ∀ a, Memory.read [] a = Color.white.cell

/-- CONFIGURE tests the resolution, then the profile name, then the identity record; the first test that fails is what the caller
receives, and nothing else changes (R120, R281, R292). -/
def Obligations.ConfigureRejectionsChangeNothing : Prop :=
  ∀ (s : State) (w h : Nat) (name : String) (c : BitVec 2) (fh fv : Bool) (id : Option IdentityRecord), s.inflight = false →
    ((∀ e ∈ s.params.resTable, ¬(e.w = w ∧ e.h = h)) →
      exec (.configure w h name c fh fv id) s =
        .next { s with results := s.results ++ [.unsupportedResolution w h] }) ∧
    ((∃ e ∈ s.params.resTable, e.w = w ∧ e.h = h) → name ∉ ["black", "red", "yellow"] →
      exec (.configure w h name c fh fv id) s =
        .next { s with results := s.results ++ [.unsupportedProfile name] }) ∧
    (∀ r, (∃ e ∈ s.params.resTable, e.w = w ∧ e.h = h) → name ∈ ["black", "red", "yellow"] → id = some r →
      ¬(r.width = w ∧ r.height = h) →
      exec (.configure w h name c fh fv id) s =
        .next { s with results := s.results ++ [.identityMismatch r.width r.height] })

/-- SETBORDER writes BORDER for 0, 1 and 2 and keeps it for 3; it changes nothing else of the block (R126). -/
def Obligations.SetborderWritesTheBorder : Prop :=
  ∀ (s : State) (c : BitVec 2), s.inflight = false → s.cfgv = true →
    exec (.setborder c) s =
      .next { s with
        regs := { s.regs with
          border := if c = 0 then .white else if c = 1 then .black else if c = 2 then .accent else s.regs.border },
        results := s.results ++ [.ok] }

/-- SETPIXEL with a valid colour and coordinates in bounds writes the cell at y * W + x, leaves every other cell as it was, keeps the
store canonical, and changes nothing else (R140, R60). -/
def Obligations.SetpixelWritesOneCell : Prop :=
  ∀ (s : State) (x y : Int) (c : Byte), s.inflight = false → s.cfgv = true → s.fs.wf →
    (c = 0 ∨ c = 1 ∨ c = 2) → 0 ≤ x → x < s.regs.w → 0 ≤ y → y < s.regs.h →
    ∃ t, exec (.setpixel x y c) s = .next t ∧
      t.fs.read (y.toNat * s.regs.w + x.toNat) = c ∧
      (∀ a, a ≠ y.toNat * s.regs.w + x.toNat → t.fs.read a = s.fs.read a) ∧
      t.fs.wf ∧ y.toNat * s.regs.w + x.toNat < s.regs.w * s.regs.h ∧
      t = { s with fs := t.fs, results := s.results ++ [.ok] }

/-- A colour outside 0, 1, 2 makes SETPIXEL a no-op whatever the coordinates; a valid colour outside the store raises BoundsFault,
where the spec also lets a model refuse, so that the fault is the model's choice (log entry 14); in both cases no cell and no register
changes (R140, R141, R142, R289). -/
def Obligations.SetpixelOutsideItsRangesChangesNothing : Prop :=
  ∀ (s : State) (x y : Int) (c : Byte), s.inflight = false → s.cfgv = true →
    (¬(c = 0 ∨ c = 1 ∨ c = 2) →
      exec (.setpixel x y c) s = .next { s with results := s.results ++ [.ok] }) ∧
    ((c = 0 ∨ c = 1 ∨ c = 2) → ¬(0 ≤ x ∧ x < s.regs.w ∧ 0 ≤ y ∧ y < s.regs.h) →
      exec (.setpixel x y c) s = .next { s with results := s.results ++ [.boundsFault x y] })

/-- LOADFRAME with W * H cells replaces every cell of the store, unfiltered, and changes nothing else (R143). -/
def Obligations.LoadframeReplacesEveryCell : Prop :=
  ∀ (s : State) (raster : List Byte), s.inflight = false → s.cfgv = true → raster.length = s.regs.w * s.regs.h →
    ∃ t, exec (.loadframe raster) s = .next t ∧
      (∀ i, i < s.regs.w * s.regs.h → some (t.fs.read i) = raster[i]?) ∧
      (∀ a, s.regs.w * s.regs.h ≤ a → t.fs.read a = Color.white.cell) ∧
      t.fs.wf ∧ t = { s with fs := t.fs, results := s.results ++ [.ok] }

/-- LOADFRAME is the loop of its rule: for a canonical store whose cells are the W * H of the geometry, the new store is the old one
after writing raster[i] at i for every i in turn (R143). -/
def Obligations.LoadframeIsTheLoopOfWrites : Prop :=
  ∀ (s : State) (raster : List Byte), s.inflight = false → s.cfgv = true → raster.length = s.regs.w * s.regs.h →
    s.fs.wf → (∀ c ∈ s.fs, c.1 < s.regs.w * s.regs.h) →
    ∃ t, exec (.loadframe raster) s = .next t ∧
      t.fs = (List.range (s.regs.w * s.regs.h)).foldl (fun m i => Memory.write m i (raster.getD i 0)) s.fs

/-- UPDATE is accepted from every resting state: it sets INFLIGHT, latches WAIT, clears ERR and ERRSTEP, starts at entry 0 and packs the
two planes from the store as it is then; STATE, the trace and the rest are untouched (R201, R202, R75). -/
def Obligations.UpdateIsAccepted : Prop :=
  ∀ (s : State) (wait : Bool), s.inflight = false → s.cfgv = true →
    exec (.update wait) s =
      .next { s with inflight := true, wait := wait, err := .none, errstep := 0, step := 0, pa := planeA s, pb := planeB s }

/-- Every host operation is refused while an UPDATE is in flight (R34, R76). -/
def Obligations.HostOperationsAreRefusedInFlight : Prop :=
  ∀ (s : State) (op : HostOp), s.inflight = true → exec op.toInstr s = .refused .updateInFlight

/-- Before a CONFIGURE has succeeded every host operation but CONFIGURE is refused (R32); a raster of the wrong length is refused
(R143). -/
def Obligations.UnconfiguredOperationsAreRefused : Prop :=
  ∀ s : State, s.inflight = false →
    (s.cfgv = false →
      (∀ c, exec (.setborder c) s = .refused .notConfigured) ∧
      (∀ x y c, exec (.setpixel x y c) s = .refused .notConfigured) ∧
      (∀ raster, exec (.loadframe raster) s = .refused .notConfigured) ∧
      (∀ wait, exec (.update wait) s = .refused .notConfigured)) ∧
    (∀ raster, s.cfgv = true → raster.length ≠ s.regs.w * s.regs.h →
      exec (.loadframe raster) s = .refused (.rasterLength raster.length (s.regs.w * s.regs.h)))

/-! ### The packer and the LUT selector -/

/-- PACK writes PA and PB, each ceil(W * H / 8) bytes, and nothing else; the frame store is only read (R160, R168). -/
def Obligations.PackWritesOnlyThePlanes : Prop :=
  ∀ s : State, ∃ pa pb : List Byte,
    exec .pack s = .next { s with pa := pa, pb := pb } ∧
    pa.length = (s.regs.w * s.regs.h + 7) / 8 ∧ pb.length = (s.regs.w * s.regs.h + 7) / 8

/-- The palette encoder as a truth table (R166, R167). -/
def Obligations.PaletteEncoderTruthTable : Prop :=
  ∀ v : Byte, (encodeA v, encodeB v) = if v = 1 then (false, false) else if v = 2 then (true, true) else (true, false)

/-- Bit 7 - i of byte j of plane A is 0 exactly where pixel 8j + i of the stream is BLACK or past the end; of plane B it is 1 exactly
where that pixel is ACCENT (R63, R166, R167, R168). -/
def Obligations.PlaneBitsAreThePixels : Prop :=
  ∀ (s t : State) (j i : Nat), exec .pack s = .next t → j < (s.regs.w * s.regs.h + 7) / 8 → i < 8 →
    ((t.pa.getD j 0).getLsbD (7 - i) = true ↔
      8 * j + i < s.regs.w * s.regs.h ∧ pixelStream s (8 * j + i) ≠ 1) ∧
    ((t.pb.getD j 0).getLsbD (7 - i) = true ↔
      8 * j + i < s.regs.w * s.regs.h ∧ pixelStream s (8 * j + i) = 2)

/-- The closed form of stages 1 to 4: where the logical pixel (x, y) appears in the stream, and which cell each position holds
(R165). -/
def Obligations.PixelStreamClosedForm : Prop :=
  ∀ s : State,
    (∀ x y, x < s.regs.w → y < s.regs.h →
      pixelStream s
        (match s.regs.rot with
          | .rot0 => (if s.regs.vflip then s.regs.h - 1 - y else y) * s.regs.w + (if s.regs.hflip then s.regs.w - 1 - x else x)
          | .rotM90 => (if s.regs.hflip then s.regs.w - 1 - x else x) * s.regs.h +
              (s.regs.h - 1 - (if s.regs.vflip then s.regs.h - 1 - y else y))) =
        s.fs.read (y * s.regs.w + x)) ∧
    (∀ k, k < s.regs.w * s.regs.h →
      pixelStream s k =
        match s.regs.rot with
        | .rot0 => s.fs.read
            ((if s.regs.vflip then s.regs.h - 1 - k / s.regs.w else k / s.regs.w) * s.regs.w +
              (if s.regs.hflip then s.regs.w - 1 - k % s.regs.w else k % s.regs.w))
        | .rotM90 => s.fs.read
            ((if s.regs.vflip then s.regs.h - 1 - (s.regs.h - 1 - k % s.regs.h) else s.regs.h - 1 - k % s.regs.h) * s.regs.w +
              (if s.regs.hflip then s.regs.w - 1 - k / s.regs.h else k / s.regs.h)))

/-- Stages 1 to 4 are a permutation of the W * H cells that depends on the geometry and the flags alone, W, H, ROT, HFLIP and VFLIP:
every cell appears exactly once, whatever the store and the rest of the state hold (R165, R169). -/
def Obligations.OrientationIsAPermutation : Prop :=
  ∃ cellAt : Nat → Nat → Rot → Bool → Bool → Nat → Nat,
    (∀ (w h : Nat) (rot : Rot) (hflip vflip : Bool),
      (∀ k, k < w * h → cellAt w h rot hflip vflip k < w * h) ∧
      (∀ a, a < w * h → ∃ k, k < w * h ∧ cellAt w h rot hflip vflip k = a)) ∧
    ∀ (s : State) (k : Nat), k < s.regs.w * s.regs.h →
      pixelStream s k = s.fs.read (cellAt s.regs.w s.regs.h s.regs.rot s.regs.hflip s.regs.vflip k)

/-- The three grid stages (R161, R162, R163): a vertical flip reverses the rows, a horizontal flip the columns, and the rotation is one
quarter turn clockwise. -/
def Obligations.GridStagesMoveTheCells : Prop :=
  ∀ (g : Grid) (y x i j : Nat),
    (flipV true g).cell y x = g.cell (g.rows - 1 - y) x ∧ flipV false g = g ∧
    (flipH true g).cell y x = g.cell y (g.cols - 1 - x) ∧ flipH false g = g ∧
    (rotate .rotM90 g).cell i j = g.cell (g.rows - 1 - j) i ∧
    (rotate .rotM90 g).rows = g.cols ∧ (rotate .rotM90 g).cols = g.rows ∧ rotate .rot0 g = g ∧
    flipH true (flipV true g) = flipV true (flipH true g)

/-- PACK is a pure function of the store, the geometry and the orientation flags: two states that agree on what it reads get the same
planes, whatever else differs (R169). -/
def Obligations.PackIsPure : Prop :=
  ∀ s t s' t' : State, s.regs.w = t.regs.w → s.regs.h = t.regs.h → s.regs.vflip = t.regs.vflip → s.regs.hflip = t.regs.hflip →
    s.regs.rot = t.regs.rot → (∀ a, a < s.regs.w * s.regs.h → s.fs.read a = t.fs.read a) →
    exec .pack s = .next s' → exec .pack t = .next t' → s'.pa = t'.pa ∧ s'.pb = t'.pb

/-- A store of BLACK cells packs to zeros in both planes; a store of ACCENT cells packs to ones in both, pad bits 0 (R170). -/
def Obligations.UniformStoresPackUniformly : Prop :=
  ∀ s t : State, exec .pack s = .next t →
    ((∀ a, a < s.regs.w * s.regs.h → s.fs.read a = 1) →
      t.pa = List.replicate ((s.regs.w * s.regs.h + 7) / 8) 0x00 ∧
      t.pb = List.replicate ((s.regs.w * s.regs.h + 7) / 8) 0x00) ∧
    ((∀ a, a < s.regs.w * s.regs.h → s.fs.read a = 2) →
      t.pa = t.pb ∧
      ((s.regs.w * s.regs.h) % 8 = 0 → t.pb = List.replicate (s.regs.w * s.regs.h / 8) 0xFF) ∧
      ((s.regs.w * s.regs.h) % 8 ≠ 0 →
        t.pb = List.replicate (s.regs.w * s.regs.h / 8) 0xFF ++ [0xFF#8 <<< (8 - (s.regs.w * s.regs.h) % 8)]))

/-- The LUT selector: red is upgraded to red_ht exactly when an identity record is present, reports a variant of the upgrade set and
the accent colour "red"; in every other case the name of the profile is the name of the LUT (R190, R191). -/
def Obligations.LutselFunctionUpgradesOnlyRed : Prop :=
  ∀ (p : Params) (prof : Profile) (id : Option IdentityRecord),
    (lutselFn p prof id = .redHt ↔
      prof = .red ∧ ∃ r, id = some r ∧ r.variantCode ∈ p.htVariants ∧ r.accentColorName = "red") ∧
    (lutselFn p prof id ≠ .redHt →
      lutselFn p prof id = match prof with
        | .black => .black
        | .red => .red
        | .yellow => .yellow)

/-- LUTSEL as an instruction completes in every state, leaves its result in the LUTSEL register and changes nothing else. That the
result is left there is the model's reading (log entry 7). -/
def Obligations.LutselWritesOnlyItsRegister : Prop :=
  ∀ (s : State) (prof : Profile) (id : Option IdentityRecord),
    exec (.lutsel prof id) s = .next { s with regs := { s.regs with lutsel := lutselFn s.params prof id } }

/-! ### The sequencer, exceptions, whole-machine rules -/

/-- A step while an UPDATE is in flight performs the due event of the register-ROM entry at STEP if its condition holds: it writes
STATE and performs the instruction, and where no second event is due then and the instruction did not raise, STEP advances (R201,
R209). That the turns of the loop without an event belong to the step before them, and that a second event is due, is the model's
reading (log entry 8). -/
def Obligations.StepRunsTheRomEntry : Prop :=
  ∀ s : State, s.inflight = true →
    (∀ t, (romEntry s.params s.step).cond.holds s = true →
      exec (romEntry s.params s.step).instr { s with state := (romEntry s.params s.step).state } = .next t →
      step s = .next (if t.inflight = true ∧ t.beat = .first then t.advance else t)) ∧
    ((romEntry s.params s.step).cond.holds s = false → step s = .next s.advance)

/-- The advance of STEP: to the next entry whose condition holds, over those whose condition does not, and changing nothing else; after
the last entry that is performed the UPDATE returns OK with STEP 0 (R201, R209, R30). That it takes no step of its own is the model's
reading (log entry 8). -/
def Obligations.AdvanceSkipsToTheNextPerformedEntry : Prop :=
  ∀ s : State,
    (∀ k : RomIndex, s.step < k → (∀ j : RomIndex, s.step < j → j < k → (romEntry s.params j).cond.holds s = false) →
      (romEntry s.params k).cond.holds s = true → s.advance = { s with step := k }) ∧
    ((∀ j : RomIndex, s.step < j → (romEntry s.params j).cond.holds s = false) →
      s.advance = { s with step := 0, inflight := false, results := s.results ++ [.ok] })

/-- A step is one event or one host operation (R7): a step in flight appends exactly one event, for every STEP whose entry is performed,
which the invariant says of every UPDATE in flight; a step at rest, which runs a host operation, appends none. The step that has
nothing to run is log entry 11. -/
def Obligations.EachStepInFlightIsOneEvent : Prop :=
  ∀ s t : State, step s = .next t →
    (s.inflight = true → (romEntry s.params s.step).cond.holds s = true → ∃ ev, t.tr = s.tr ++ [ev]) ∧
    (s.inflight = false → t.tr = s.tr)

/-- A step runs the decoded frame: where the decoder reads a frame from a word, the state that word selects is in flight at a
register-ROM entry that holds this very frame, its first event due, and the step is the frame's meaning there, with STATE written
before it and STEP advanced after it where nothing more is due (R201, R38). Words are read under the default opcodes (log entry 2);
selecting stands for the fetch, the ROM being fixed (log entry 6); one step is one event of the frame, and what follows it belongs to
that step (log entry 8). -/
def Obligations.StepRunsTheDecodedFrame : Prop :=
  ∀ (s : State) (nbits w : Nat) (i : Instr), decodeTableWord nbits w = some i →
    ∃ k ∈ entriesOf i, (romEntry s.params k).instr = i ∧
      s.withFetchWord nbits w =
        { s with inflight := true, step := k, beat := .first, wait := if i = .deepSleep then true else s.wait } ∧
      ∀ t, exec i { s.withFetchWord nbits w with state := (romEntry s.params k).state } = .next t →
        step (s.withFetchWord nbits w) = .next (if t.inflight = true ∧ t.beat = .first then t.advance else t)

/-- While no UPDATE is in flight a step runs the caller's next host operation, taken off its list, and a refusal of the operation is
the step's (R73); an UPDATE it accepts moves past entry 0 where the transport is acquired (R201; that this takes no step of its own is
log entry 8). With no operation to run the same state is answered, which is the model's reading (log entry 11; R320 says the block
does nothing). -/
def Obligations.StepRunsTheNextCall : Prop :=
  ∀ s : State, s.inflight = false →
    (∀ op rest, s.calls = op :: rest →
      (∀ t, exec op.toInstr { s with calls := rest } = .next t → t.inflight = false → step s = .next t) ∧
      (∀ t, exec op.toInstr { s with calls := rest } = .next t → t.inflight = true →
        step s = .next { t with step := if t.init then 1 else 0 }) ∧
      (∀ r, exec op.toInstr { s with calls := rest } = .refused r → step s = .refused r)) ∧
    (s.calls = [] → step s = .next s)

/-- The register ROM in full: the instruction at each of the 34 entries, the STATE it writes, and exactly when it is performed
(R203). -/
def Obligations.RegisterRomIsTheTable : Prop :=
  ∀ (p : Params) (k : RomIndex),
    (romEntry p k).index = k ∧
    [Instr.acquire, .rstline .inactive, .delay 100, .rstline .active, .delay 100, .swreset, .waitbusy 1000 .softReset,
      .analogBlock, .digitalBlock, .gateSetting, .gateVolt, .sourceVolt, .dummyLine, .gateWidth, .dataEntry, .vcom,
      .borderDefault, .borderMatch, .sourceVoltY, .sourceVoltR, .lutLoad, .ramXWindow, .ramYWindow, .ramXPtr, .ramYPtr,
      .ramWriteA, .ramXPtr, .ramYPtr, .ramWriteB, .updateCtrl, .activate, .delay 50, .waitbusy p.tRefresh .refresh,
      .deepSleep][k.val]? = some (romEntry p k).instr ∧
    (romEntry p k).state =
      (if k.val ≤ 4 then .resetting else if k.val ≤ 6 then .softResetting else if k.val ≤ 19 then .configuring
        else if k.val ≤ 20 then .lutLoaded else if k.val ≤ 28 then .ramWritten else if k.val ≤ 31 then .triggered
        else if k.val ≤ 32 then .busy else .sleeping) ∧
    ∀ s : State, (romEntry p k).cond.holds s = true ↔
      (k = 0 → s.init = false) ∧ (k = 17 → ¬(s.regs.border = .accent ∧ s.regs.profile = .black)) ∧
      (k = 18 → s.regs.profile = .yellow) ∧
      (k = 19 → s.regs.profile = .red ∧ (s.regs.w, s.regs.h) = s.params.redOverrideRes) ∧
      (k = 32 ∨ k = 33 → s.wait = true)

/-- A busy wait that finds BUSYLVL waits for an edge at its next step, and one whose wait times out takes the trap: ERR holds the cause,
ERRSTEP the entry, STATE is ERROR, STEP is 0, the UPDATE is over and its caller receives TimeoutError; the wait is the last event on
the trace and nothing else changes (R295, R284, R213). Which event is due is the model's field (log entry 8), and so is the list the
caller's result is appended to (log entry 5). -/
def Obligations.TimeoutEndsTheUpdate : Prop :=
  ∀ s : State, s.inflight = true → (s.env.answer 0).fails = false →
    (s.beat = .first → (s.env.answer 0).level = .busy →
      (s.step = 6 →
        step s = .next { s with
          state := .softResetting, beat := .second, tr := s.tr ++ [.readLine (.level .busy)], env := s.env.drop 1 }) ∧
      (s.step = 32 → s.wait = true →
        step s = .next { s with
          state := .busy, beat := .second, tr := s.tr ++ [.readLine (.level .busy)], env := s.env.drop 1 })) ∧
    (s.beat = .second → (s.env.answer 0).edge = false →
      (s.step = 6 →
        step s = .next { s with
          err := .timeoutSoftReset, errstep := 6, state := .error, step := 0, beat := .first, inflight := false,
          results := s.results ++ [.timeoutError .softReset 6],
          tr := s.tr ++ [.waitEdge 1000 (.edge false)], env := s.env.drop 1 }) ∧
      (s.step = 32 → s.wait = true →
        step s = .next { s with
          err := .timeoutRefresh, errstep := 32, state := .error, step := 0, beat := .first, inflight := false,
          results := s.results ++ [.timeoutError .refresh 32],
          tr := s.tr ++ [.waitEdge s.params.tRefresh (.edge false)], env := s.env.drop 1 }))

/-- A transport failure of any event of any performed entry ends the UPDATE: the failed event is the last on the trace, ERR is
TRANSPORT and ERRSTEP the entry; only a DELAY cannot fail (R286, R295, R207). The list the caller's result is appended to is the
model's (log entry 5), and so is the field that says which event is due (log entry 8). -/
def Obligations.TransportFailureEndsTheUpdate : Prop :=
  ∀ s : State, s.inflight = true → (romEntry s.params s.step).cond.holds s = true →
    (∀ ms, (romEntry s.params s.step).instr ≠ .delay ms) → (s.env.answer 0).fails = true →
    ∃ ev : Event, ev.failed = true ∧
      step s = .next { s with
        err := .transport, errstep := s.step, state := .error, step := 0, beat := .first, inflight := false,
        results := s.results ++ [.transportError s.step], tr := s.tr ++ [ev], env := s.env.drop 1 }

/-- A failed event is the last one an UPDATE emits: whenever a step in flight appends a failed event, that event is the last, the UPDATE
is over, and STATE is ERROR (R207, R286, R295). -/
def Obligations.NothingFollowsAFailedEvent : Prop :=
  ∀ (s t : State) (ev : Event), s.inflight = true → step s = .next t → ev ∈ newEvents s t → ev.failed = true →
    (newEvents s t).getLast? = some ev ∧ t.inflight = false ∧ t.state = .error ∧ t.err = .transport ∧ t.errstep = s.step

/-- The registers are written by CONFIGURE and, for BORDER alone, SETBORDER, and by no other step (R28). -/
def Obligations.OnlyConfigureAndSetborderWriteRegisters : Prop :=
  ∀ s t : State, step s = .next t → t.regs ≠ s.regs →
    s.inflight = false ∧
      ((∃ w h name c fh fv id, s.calls.head? = some (.configure w h name c fh fv id) ∧ t.cfgv = true) ∨
       (∃ c, s.calls.head? = some (.setborder c) ∧ t.regs = { s.regs with border := t.regs.border }))

/-- No cell of the frame store changes except by CONFIGURE, SETPIXEL (the one cell at y * W + x) or LOADFRAME; PACK, the sequencer and
every other operation only read it (R39). -/
def Obligations.OnlyThreeOperationsWriteTheStore : Prop :=
  ∀ s t : State, step s = .next t → t.fs ≠ s.fs →
    s.inflight = false ∧
      ((∃ w h name c fh fv id, s.calls.head? = some (.configure w h name c fh fv id) ∧ t.fs = []) ∨
       (∃ x y c, s.calls.head? = some (.setpixel x y c) ∧ 0 ≤ x ∧ x < s.regs.w ∧ 0 ≤ y ∧ y < s.regs.h ∧
          ∀ b, b ≠ y.toNat * s.regs.w + x.toNat → t.fs.read b = s.fs.read b) ∨
       (∃ raster, s.calls.head? = some (.loadframe raster) ∧ raster.length = s.regs.w * s.regs.h))

/-- The plane buffers are written only when an UPDATE is accepted, and hold through it (R40, R75); STEP is then at the first
entry that is performed (log entry 8). -/
def Obligations.PlanesAreASnapshot : Prop :=
  ∀ s t : State, step s = .next t → ¬(t.pa = s.pa ∧ t.pb = s.pb) →
    s.inflight = false ∧ t.inflight = true ∧ t.step = (if s.init then 1 else 0) ∧ ∃ wait, s.calls.head? = some (.update wait) ∧
      t.pa = planeA s ∧ t.pb = planeB s

/-- Nothing is forgotten: every step keeps the parameters and the ROMs, only appends to the trace and to the caller's results, and
never clears INIT, CFGV or WARN (R31, R32, R35, R41, R75). That results are a list that grows is the model's choice (log entry 5). -/
def Obligations.NothingIsForgotten : Prop :=
  ∀ s t : State, step s = .next t →
    t.params = s.params ∧ s.tr <+: t.tr ∧ s.results <+: t.results ∧
      (s.init = true → t.init = true) ∧ (s.cfgv = true → t.cfgv = true) ∧ (s.warn = true → t.warn = true)

/-- While an UPDATE is in flight a step leaves STEP where it is only to make the second event of its entry due; otherwise STEP goes up,
or the UPDATE ends with STEP 0; the caller's list waits (R30, R73). That passing over an entry takes no step of its own is the model's
reading (log entry 8), and the caller's list is its own field (log entry 5). -/
def Obligations.StepIndexOnlyAdvances : Prop :=
  ∀ s t : State, s.inflight = true → step s = .next t →
    t.calls = s.calls ∧
      ((t.inflight = true ∧ t.step = s.step ∧ s.beat = .first ∧ t.beat = .second ∧ t.results = s.results) ∨
       (t.inflight = true ∧ s.step < t.step ∧ t.results = s.results) ∨
       (t.inflight = false ∧ t.step = 0 ∧ t.results.length = s.results.length + 1))

/-- Every step in flight answers a next state: the block never gets stuck inside an UPDATE (R73; end of part 2 of
93_implementation_defined.md). -/
def Obligations.UpdateNeverSticks : Prop :=
  ∀ s : State, s.inflight = true → ∃ t, step s = .next t

/-- The deep-sleep command is emitted only by entry 33 of an UPDATE that waits, and the trigger only by entry 30: no other step of the
machine puts either command on the trace, for every choice of distinct opcodes (R215, R264, R265, R305). -/
def Obligations.SleepAndTriggerHaveOnePlace : Prop :=
  ∀ (s t : State) (r : SendReply), opcodesDistinct s.params.op = true → step s = .next t →
    (Event.cmd 0x10 r ∈ newEvents s t → s.inflight = true ∧ s.step = 33 ∧ s.wait = true) ∧
    (Event.cmd s.params.op.activate r ∈ newEvents s t → s.inflight = true ∧ s.step = 30)

/-! ### Headlines -/

/-- The steps of an UPDATE in flight are the loop of R201: for some number of steps, at most two for each entry left, the machine
reaches exactly the state the loop leaves, with the UPDATE over. That the loop's turns without an event take no step of their own is
the model's reading (log entry 8). -/
def Obligations.StepsRefineTheUpdateLoop : Prop :=
  ∀ s : State, s.inflight = true →
    ∃ n, n ≤ 2 * (34 - s.step.val) ∧ runSteps n s = .next (updateLoop s.entriesLeft s) ∧
      (updateLoop s.entriesLeft s).inflight = false

/-- An UPDATE that meets no failure and a READY busy line emits exactly the sequence of R203 and ends SLEEPING if it waits and
TRIGGERED if it does not, one step after it was issued for the acceptance and one for each event (R7; log entry 8); the caller
receives OK, and the register file, the store and the parameters are as they were (R203, R205, R73). -/
def Obligations.CompletedUpdateEmitsTheWholeSequence : Prop :=
  ∀ (s : State) (wait : Bool) (rest : List HostOp), s.inflight = false → s.cfgv = true → s.calls = .update wait :: rest →
    0 < s.regs.w * s.regs.h → s.env.GrantsReady 53 →
    ∃ t, runSteps ((updateEvents wait s).length + 1) s = .next t ∧
      t.tr = s.tr ++ updateEvents wait s ∧
      t.state = (if wait then .sleeping else .triggered) ∧ t.step = 0 ∧ t.beat = .first ∧ t.inflight = false ∧
      t.err = .none ∧ t.errstep = 0 ∧ t.init = true ∧ t.wait = wait ∧ t.results = s.results ++ [.ok] ∧
      t.pa = planeA s ∧ t.pb = planeB s ∧ t.calls = rest ∧
      t.params = s.params ∧ t.regs = s.regs ∧ t.fs = s.fs ∧ t.cfgv = true

/-- The invariant is kept by every step, from every state that has it. Its clauses about the event that is due are about the
model's field (log entry 8). -/
def Obligations.StepKeepsTheInvariant : Prop :=
  ∀ s t : State, Inv s → step s = .next t → Inv t

/-- The invariant holds after reset. The validity of the default parameters is the model's own check of the defaults (log entry 2). -/
def Obligations.ResetHasTheInvariant : Prop := Inv State.reset

/-- The reset values the spec states (R46). -/
def Obligations.ResetValues : Prop :=
  State.reset.state = .uninitialized ∧ State.reset.step = 0 ∧ State.reset.init = false ∧ State.reset.cfgv = false ∧
  State.reset.inflight = false ∧ State.reset.err = .none ∧ State.reset.errstep = 0 ∧ State.reset.warn = false ∧
  State.reset.regs.border = .white ∧ State.reset.tr = []
end

