-- ==== Sys2Proof/Laws/Decode.lean ====
section
/-! SUPPORT. The decoder's opcode table: its keys are the opcodes of 30_encoding.md R96, so with pairwise distinct opcodes (R95) every
row is what its key finds. -/

namespace Sys2Proof.Laws

/-- The opcode at a place of the list of R96. -/
def opcodeAt (op : OpcodeParams) (n : Fin 21) : Byte := (opcodes op)[n.val]'n.isLt

/-- The opcodes of the decoder's table, in register-ROM order, are those of R96 in another order. -/
theorem opcodeMap_perm (op : OpcodeParams) : ((opcodeMap op).map Prod.fst).Perm (opcodes op) := by
  have h : ([5, 19, 20, 0, 1, 2, 12, 13, 4, 10, 14, 11, 15, 16, 17, 18, 8, 9, 7, 6, 3] : List (Fin 21)).Perm
      (List.finRange 21) := by decide
  exact h.map (opcodeAt op)

/-- With distinct keys a row of a table is what looking its key up finds. -/
theorem find_row {l : List (Byte × Instr)} (hn : (l.map Prod.fst).Nodup) {b : Byte} {i : Instr} (h : (b, i) ∈ l) :
    l.find? (fun r => r.1 == b) = some (b, i) := by
  induction l with
  | nil => cases h
  | cons r l ih =>
    rw [List.map_cons, List.nodup_cons] at hn
    rcases List.mem_cons.mp h with rfl | hm
    · simp
    · have hne : r.1 ≠ b := fun he => hn.1 (he ▸ List.mem_map_of_mem (f := Prod.fst) hm)
      rw [List.find?_cons_of_neg (by simpa using hne)]
      exact ih hn.2 hm

/-- The opcode of a row decodes to the row's frame, told apart by the entry. -/
theorem decodeOpcode_row {op : OpcodeParams} (h : opcodesDistinct op = true) {b : Byte} {i : Instr} (hm : (b, i) ∈ opcodeMap op)
    (entry : Option RomIndex) : decodeOpcode op entry b = some (atEntry entry i) := by
  have hn : ((opcodeMap op).map Prod.fst).Nodup := (opcodeMap_perm op).nodup_iff.mpr (of_decide_eq_true h)
  rw [decodeOpcode, find_row hn hm]
  rfl

end Sys2Proof.Laws
end

