-- ==== Sys2Proof/Laws/Memory.lean ====
section
/-! SUPPORT. The frame store: read after write, every operation keeps the canonical form, and a canonical store is determined by
its reads (20_memory.md R60, R61). -/

namespace Sys2Proof.Machine

/-- Every listed address is above `a`. -/
abbrev Memory.above (a : Nat) (m : Memory) : Prop := ∀ c ∈ m, a < c.1

theorem wf_nil : Memory.wf ([] : Memory) := by simp [Memory.wf]

theorem wf_tail {c : Host.Cell} {m : Memory} (h : Memory.wf (c :: m)) : Memory.wf m :=
  ⟨(List.pairwise_cons.mp h.1).2, fun d hd => h.2 d (List.mem_cons_of_mem _ hd)⟩

theorem wf_head_above {b : Nat} {u : Byte} {m : Memory} (h : Memory.wf ((b, u) :: m)) : Memory.above b m :=
  (List.pairwise_cons.mp h.1).1

theorem wf_head_listed {b : Nat} {u : Byte} {m : Memory} (h : Memory.wf ((b, u) :: m)) : u ≠ unlistedCell :=
  h.2 (b, u) (List.mem_cons_self ..)

/-- An address below every listed one reads as WHITE. -/
theorem read_of_above {a : Nat} {m : Memory} (h : Memory.above a m) : Memory.read m a = unlistedCell := by
  induction m with
  | nil => rfl
  | cons c m ih =>
    have hc : a < c.1 := h c (List.mem_cons_self ..)
    have hne : a ≠ c.1 := by omega
    simp only [Memory.read, hne, if_false]
    exact ih fun d hd => h d (List.mem_cons_of_mem _ hd)

/-- `Memory.cons` keeps the canonical form. -/
theorem wf_cons {a : Nat} {v : Byte} {m : Memory} (ha : Memory.above a m) (h : Memory.wf m) :
    Memory.wf (Memory.cons a v m) := by
  unfold Memory.cons
  split
  · exact h
  · rename_i hv
    refine ⟨List.pairwise_cons.mpr ⟨ha, h.1⟩, fun c hc => ?_⟩
    rcases List.mem_cons.mp hc with rfl | hc
    · exact hv
    · exact h.2 c hc

theorem mem_memory_cons {a : Nat} {v : Byte} {m : Memory} {c : Host.Cell} (h : c ∈ Memory.cons a v m) :
    c.1 = a ∨ c ∈ m := by
  unfold Memory.cons at h
  split at h
  · exact .inr h
  · rcases List.mem_cons.mp h with rfl | h
    · exact .inl rfl
    · exact .inr h

/-- A cell put in front reads as what was put there. -/
theorem read_cons_same {a : Nat} {v : Byte} {m : Memory} (ha : Memory.above a m) :
    Memory.read (Memory.cons a v m) a = v := by
  unfold Memory.cons
  split
  · rename_i hv
    rw [read_of_above ha, hv]
  · simp [Memory.read]

/-- A cell put in front changes no other address. -/
theorem read_cons_other {a b : Nat} {v : Byte} {m : Memory} (h : b ≠ a) :
    Memory.read (Memory.cons a v m) b = Memory.read m b := by
  unfold Memory.cons
  split
  · rfl
  · simp [Memory.read, h]

theorem mem_write {m : Memory} {a : Nat} {v : Byte} {c : Host.Cell} (h : c ∈ Memory.write m a v) : c.1 = a ∨ c ∈ m := by
  induction m with
  | nil => simpa using mem_memory_cons (m := []) h
  | cons d m ih =>
    obtain ⟨b, u⟩ := d
    unfold Memory.write at h
    split at h
    · exact mem_memory_cons h
    · split at h
      · exact (mem_memory_cons h).imp id (List.mem_cons_of_mem _)
      · rcases List.mem_cons.mp h with rfl | h
        · exact .inr (List.mem_cons_self ..)
        · exact (ih h).imp id (List.mem_cons_of_mem _)

/-- A write keeps the canonical form. -/
theorem write_wf {m : Memory} (a : Nat) (v : Byte) (h : Memory.wf m) : Memory.wf (Memory.write m a v) := by
  induction m with
  | nil => exact wf_cons (by simp) wf_nil
  | cons d m ih =>
    obtain ⟨b, u⟩ := d
    unfold Memory.write
    split
    · rename_i hab
      refine wf_cons (fun c hc => ?_) h
      rcases List.mem_cons.mp hc with rfl | hc
      · exact hab
      · exact lt_trans hab (wf_head_above h c hc)
    · rename_i hnab
      split
      · rename_i hab
        exact wf_cons (hab ▸ wf_head_above h) (wf_tail h)
      · rename_i hne
        have ht := ih (wf_tail h)
        refine ⟨List.pairwise_cons.mpr ⟨fun c hc => ?_, ht.1⟩, fun c hc => ?_⟩
        · rcases mem_write hc with hc | hc
          · simp only [hc]; omega
          · exact wf_head_above h c hc
        · rcases List.mem_cons.mp hc with rfl | hc
          · exact wf_head_listed h
          · exact ht.2 c hc

/-- Read after write at the same address. -/
theorem read_write_same {m : Memory} (a : Nat) (v : Byte) (h : Memory.wf m) : Memory.read (Memory.write m a v) a = v := by
  induction m with
  | nil => exact read_cons_same (by simp)
  | cons d m ih =>
    obtain ⟨b, u⟩ := d
    unfold Memory.write
    split
    · rename_i hab
      refine read_cons_same fun c hc => ?_
      rcases List.mem_cons.mp hc with rfl | hc
      · exact hab
      · exact lt_trans hab (wf_head_above h c hc)
    · split
      · rename_i hab
        exact read_cons_same (hab ▸ wf_head_above h)
      · rename_i hne
        simp only [Memory.read, hne, if_false]
        exact ih (wf_tail h)

/-- A write changes no other address. -/
theorem read_write_other {m : Memory} {a b : Nat} (v : Byte) (h : b ≠ a) :
    Memory.read (Memory.write m a v) b = Memory.read m b := by
  induction m with
  | nil => exact read_cons_other h
  | cons d m ih =>
    obtain ⟨k, u⟩ := d
    unfold Memory.write
    split
    · exact read_cons_other h
    · split
      · rename_i hk
        rw [read_cons_other h, Memory.read, if_neg (hk ▸ h)]
      · simp only [Memory.read, ih]

theorem ofCells_above {a b : Nat} (vs : List Byte) (h : b < a) : Memory.above b (Memory.ofCells a vs) := by
  induction vs generalizing a with
  | nil => simp [Memory.ofCells]
  | cons v vs ih =>
    intro c hc
    rcases mem_memory_cons hc with hc | hc
    · omega
    · exact ih (by omega) c hc

/-- A loaded raster is canonical. -/
theorem ofCells_wf (a : Nat) (vs : List Byte) : Memory.wf (Memory.ofCells a vs) := by
  induction vs generalizing a with
  | nil => exact wf_nil
  | cons v vs ih => exact wf_cons (ofCells_above vs (Nat.lt_succ_self a)) (ih (a + 1))

/-- A loaded raster reads as its elements, and as WHITE beyond them. -/
theorem read_ofCells (a i : Nat) (vs : List Byte) :
    Memory.read (Memory.ofCells a vs) (a + i) = vs.getD i unlistedCell := by
  induction vs generalizing a i with
  | nil => simp [Memory.ofCells, Memory.read]
  | cons v vs ih =>
    cases i with
    | zero => simpa [Memory.ofCells] using read_cons_same (ofCells_above vs (Nat.lt_succ_self a))
    | succ i =>
      rw [Memory.ofCells, read_cons_other (by omega), show a + (i + 1) = a + 1 + i by omega, ih]
      rfl

/-- Every listed address of a loaded raster is one of its elements' addresses. -/
theorem ofCells_bounded {a : Nat} {vs : List Byte} {c : Host.Cell} (h : c ∈ Memory.ofCells a vs) : c.1 < a + vs.length := by
  induction vs generalizing a with
  | nil => simp [Memory.ofCells] at h
  | cons v vs ih =>
    rcases mem_memory_cons h with h | h
    · simp [h]
    · have := ih h
      simp only [List.length_cons]
      omega

/-- Two canonical stores that read alike everywhere are equal. -/
theorem wf_ext {m n : Memory} (hm : Memory.wf m) (hn : Memory.wf n) (h : ∀ a, Memory.read m a = Memory.read n a) : m = n := by
  induction m generalizing n with
  | nil =>
    cases n with
    | nil => rfl
    | cons d n =>
      have := h d.1
      simp only [Memory.read, if_true] at this
      exact absurd this.symm (wf_head_listed hn)
  | cons c m ih =>
    obtain ⟨b, u⟩ := c
    cases n with
    | nil =>
      have := h b
      simp only [Memory.read, if_true] at this
      exact absurd this (wf_head_listed hm)
    | cons d n =>
      obtain ⟨k, v⟩ := d
      have hb := h b
      have hk := h k
      simp only [Memory.read, if_true] at hb hk
      have hbk : b = k := by
        by_contra hne
        rcases Nat.lt_or_gt_of_ne hne with hlt | hgt
        · have habove : Memory.above b n := fun c hc => lt_trans hlt (wf_head_above hn c hc)
          rw [if_neg hne, read_of_above habove] at hb
          exact wf_head_listed hm hb
        · have habove : Memory.above k m := fun c hc => lt_trans hgt (wf_head_above hm c hc)
          rw [if_neg (Ne.symm hne), read_of_above habove] at hk
          exact wf_head_listed hn hk.symm
      subst hbk
      rw [if_pos rfl] at hb
      subst hb
      congr 1
      refine ih (wf_tail hm) (wf_tail hn) fun a => ?_
      by_cases hab : a = b
      · subst hab
        rw [read_of_above (wf_head_above hm), read_of_above (wf_head_above hn)]
      · simpa [Memory.read, hab] using h a

/-- The store of the reset state is canonical. -/
theorem reset_memory_wf : Memory.wf State.reset.fs := wf_nil

end Sys2Proof.Machine
end

