-- ==== Sys2Proof/Laws/State.lean ====
section
/-! SUPPORT. One lemma per field per named update of State, each true by computation, so that no proof unfolds a record update;
and what the loop between two events can do. -/

namespace Sys2Proof.Machine

variable (s : State)

/-! Appending an event changes the trace, and which event is due (R12). -/
@[simp] theorem record_params (ev : Event) : (s.record ev).params = s.params := rfl
@[simp] theorem record_regs (ev : Event) : (s.record ev).regs = s.regs := rfl
@[simp] theorem record_state (ev : Event) : (s.record ev).state = s.state := rfl
@[simp] theorem record_step (ev : Event) : (s.record ev).step = s.step := rfl
@[simp] theorem record_beat (ev : Event) : (s.record ev).beat = .first := rfl
@[simp] theorem record_init (ev : Event) : (s.record ev).init = s.init := rfl
@[simp] theorem record_cfgv (ev : Event) : (s.record ev).cfgv = s.cfgv := rfl
@[simp] theorem record_wait (ev : Event) : (s.record ev).wait = s.wait := rfl
@[simp] theorem record_inflight (ev : Event) : (s.record ev).inflight = s.inflight := rfl
@[simp] theorem record_err (ev : Event) : (s.record ev).err = s.err := rfl
@[simp] theorem record_errstep (ev : Event) : (s.record ev).errstep = s.errstep := rfl
@[simp] theorem record_warn (ev : Event) : (s.record ev).warn = s.warn := rfl
@[simp] theorem record_fs (ev : Event) : (s.record ev).fs = s.fs := rfl
@[simp] theorem record_pa (ev : Event) : (s.record ev).pa = s.pa := rfl
@[simp] theorem record_pb (ev : Event) : (s.record ev).pb = s.pb := rfl
@[simp] theorem record_tr (ev : Event) : (s.record ev).tr = s.tr ++ [ev] := rfl
@[simp] theorem record_calls (ev : Event) : (s.record ev).calls = s.calls := rfl
@[simp] theorem record_results (ev : Event) : (s.record ev).results = s.results := rfl
@[simp] theorem record_env (ev : Event) : (s.record ev).env = s.env := rfl

/-! Emitting an event changes the trace, uses one answer up, and which event is due (R12). -/
@[simp] theorem emit_params (ev : Answer → Event) : (s.emit ev).params = s.params := rfl
@[simp] theorem emit_regs (ev : Answer → Event) : (s.emit ev).regs = s.regs := rfl
@[simp] theorem emit_state (ev : Answer → Event) : (s.emit ev).state = s.state := rfl
@[simp] theorem emit_step (ev : Answer → Event) : (s.emit ev).step = s.step := rfl
@[simp] theorem emit_beat (ev : Answer → Event) : (s.emit ev).beat = .first := rfl
@[simp] theorem emit_init (ev : Answer → Event) : (s.emit ev).init = s.init := rfl
@[simp] theorem emit_cfgv (ev : Answer → Event) : (s.emit ev).cfgv = s.cfgv := rfl
@[simp] theorem emit_wait (ev : Answer → Event) : (s.emit ev).wait = s.wait := rfl
@[simp] theorem emit_inflight (ev : Answer → Event) : (s.emit ev).inflight = s.inflight := rfl
@[simp] theorem emit_err (ev : Answer → Event) : (s.emit ev).err = s.err := rfl
@[simp] theorem emit_errstep (ev : Answer → Event) : (s.emit ev).errstep = s.errstep := rfl
@[simp] theorem emit_warn (ev : Answer → Event) : (s.emit ev).warn = s.warn := rfl
@[simp] theorem emit_fs (ev : Answer → Event) : (s.emit ev).fs = s.fs := rfl
@[simp] theorem emit_pa (ev : Answer → Event) : (s.emit ev).pa = s.pa := rfl
@[simp] theorem emit_pb (ev : Answer → Event) : (s.emit ev).pb = s.pb := rfl
@[simp] theorem emit_tr (ev : Answer → Event) : (s.emit ev).tr = s.tr ++ [ev s.env.peek] := rfl
@[simp] theorem emit_calls (ev : Answer → Event) : (s.emit ev).calls = s.calls := rfl
@[simp] theorem emit_results (ev : Answer → Event) : (s.emit ev).results = s.results := rfl
@[simp] theorem emit_env (ev : Answer → Event) : (s.emit ev).env = s.env.next := rfl

/-! A result changes what the caller received alone (R280). -/
@[simp] theorem reply_params (r : CallResult) : (s.reply r).params = s.params := rfl
@[simp] theorem reply_regs (r : CallResult) : (s.reply r).regs = s.regs := rfl
@[simp] theorem reply_state (r : CallResult) : (s.reply r).state = s.state := rfl
@[simp] theorem reply_step (r : CallResult) : (s.reply r).step = s.step := rfl
@[simp] theorem reply_beat (r : CallResult) : (s.reply r).beat = s.beat := rfl
@[simp] theorem reply_init (r : CallResult) : (s.reply r).init = s.init := rfl
@[simp] theorem reply_cfgv (r : CallResult) : (s.reply r).cfgv = s.cfgv := rfl
@[simp] theorem reply_wait (r : CallResult) : (s.reply r).wait = s.wait := rfl
@[simp] theorem reply_inflight (r : CallResult) : (s.reply r).inflight = s.inflight := rfl
@[simp] theorem reply_err (r : CallResult) : (s.reply r).err = s.err := rfl
@[simp] theorem reply_errstep (r : CallResult) : (s.reply r).errstep = s.errstep := rfl
@[simp] theorem reply_warn (r : CallResult) : (s.reply r).warn = s.warn := rfl
@[simp] theorem reply_fs (r : CallResult) : (s.reply r).fs = s.fs := rfl
@[simp] theorem reply_pa (r : CallResult) : (s.reply r).pa = s.pa := rfl
@[simp] theorem reply_pb (r : CallResult) : (s.reply r).pb = s.pb := rfl
@[simp] theorem reply_tr (r : CallResult) : (s.reply r).tr = s.tr := rfl
@[simp] theorem reply_calls (r : CallResult) : (s.reply r).calls = s.calls := rfl
@[simp] theorem reply_results (r : CallResult) : (s.reply r).results = s.results ++ [r] := rfl
@[simp] theorem reply_env (r : CallResult) : (s.reply r).env = s.env := rfl

/-! Trap entry (R295). -/
@[simp] theorem trap_params (t : Trap) : (s.trap t).params = s.params := rfl
@[simp] theorem trap_regs (t : Trap) : (s.trap t).regs = s.regs := rfl
@[simp] theorem trap_state (t : Trap) : (s.trap t).state = .error := rfl
@[simp] theorem trap_step (t : Trap) : (s.trap t).step = 0 := rfl
@[simp] theorem trap_beat (t : Trap) : (s.trap t).beat = s.beat := rfl
@[simp] theorem trap_init (t : Trap) : (s.trap t).init = s.init := rfl
@[simp] theorem trap_cfgv (t : Trap) : (s.trap t).cfgv = s.cfgv := rfl
@[simp] theorem trap_wait (t : Trap) : (s.trap t).wait = s.wait := rfl
@[simp] theorem trap_inflight (t : Trap) : (s.trap t).inflight = false := rfl
@[simp] theorem trap_err (t : Trap) : (s.trap t).err = t.cause := rfl
@[simp] theorem trap_errstep (t : Trap) : (s.trap t).errstep = s.step := rfl
@[simp] theorem trap_warn (t : Trap) : (s.trap t).warn = s.warn := rfl
@[simp] theorem trap_fs (t : Trap) : (s.trap t).fs = s.fs := rfl
@[simp] theorem trap_pa (t : Trap) : (s.trap t).pa = s.pa := rfl
@[simp] theorem trap_pb (t : Trap) : (s.trap t).pb = s.pb := rfl
@[simp] theorem trap_tr (t : Trap) : (s.trap t).tr = s.tr := rfl
@[simp] theorem trap_calls (t : Trap) : (s.trap t).calls = s.calls := rfl
@[simp] theorem trap_results (t : Trap) : (s.trap t).results = s.results ++ [t.result s.step] := rfl
@[simp] theorem trap_env (t : Trap) : (s.trap t).env = s.env := rfl

/-! The normal end of an UPDATE (R201). -/
@[simp] theorem finish_params : (s.finish).params = s.params := rfl
@[simp] theorem finish_regs : (s.finish).regs = s.regs := rfl
@[simp] theorem finish_state : (s.finish).state = s.state := rfl
@[simp] theorem finish_step : (s.finish).step = 0 := rfl
@[simp] theorem finish_beat : (s.finish).beat = s.beat := rfl
@[simp] theorem finish_init : (s.finish).init = s.init := rfl
@[simp] theorem finish_cfgv : (s.finish).cfgv = s.cfgv := rfl
@[simp] theorem finish_wait : (s.finish).wait = s.wait := rfl
@[simp] theorem finish_inflight : (s.finish).inflight = false := rfl
@[simp] theorem finish_err : (s.finish).err = s.err := rfl
@[simp] theorem finish_errstep : (s.finish).errstep = s.errstep := rfl
@[simp] theorem finish_warn : (s.finish).warn = s.warn := rfl
@[simp] theorem finish_fs : (s.finish).fs = s.fs := rfl
@[simp] theorem finish_pa : (s.finish).pa = s.pa := rfl
@[simp] theorem finish_pb : (s.finish).pb = s.pb := rfl
@[simp] theorem finish_tr : (s.finish).tr = s.tr := rfl
@[simp] theorem finish_calls : (s.finish).calls = s.calls := rfl
@[simp] theorem finish_results : (s.finish).results = s.results ++ [.ok] := rfl
@[simp] theorem finish_env : (s.finish).env = s.env := rfl

/-! The flags an accepted UPDATE writes (R201). -/
@[simp] theorem accept_params (wait : Bool) : (s.accept wait).params = s.params := rfl
@[simp] theorem accept_regs (wait : Bool) : (s.accept wait).regs = s.regs := rfl
@[simp] theorem accept_state (wait : Bool) : (s.accept wait).state = s.state := rfl
@[simp] theorem accept_step (wait : Bool) : (s.accept wait).step = 0 := rfl
@[simp] theorem accept_beat (wait : Bool) : (s.accept wait).beat = s.beat := rfl
@[simp] theorem accept_init (wait : Bool) : (s.accept wait).init = s.init := rfl
@[simp] theorem accept_cfgv (wait : Bool) : (s.accept wait).cfgv = s.cfgv := rfl
@[simp] theorem accept_wait (wait : Bool) : (s.accept wait).wait = wait := rfl
@[simp] theorem accept_inflight (wait : Bool) : (s.accept wait).inflight = true := rfl
@[simp] theorem accept_err (wait : Bool) : (s.accept wait).err = .none := rfl
@[simp] theorem accept_errstep (wait : Bool) : (s.accept wait).errstep = 0 := rfl
@[simp] theorem accept_warn (wait : Bool) : (s.accept wait).warn = s.warn := rfl
@[simp] theorem accept_fs (wait : Bool) : (s.accept wait).fs = s.fs := rfl
@[simp] theorem accept_pa (wait : Bool) : (s.accept wait).pa = s.pa := rfl
@[simp] theorem accept_pb (wait : Bool) : (s.accept wait).pb = s.pb := rfl
@[simp] theorem accept_tr (wait : Bool) : (s.accept wait).tr = s.tr := rfl
@[simp] theorem accept_calls (wait : Bool) : (s.accept wait).calls = s.calls := rfl
@[simp] theorem accept_results (wait : Bool) : (s.accept wait).results = s.results := rfl
@[simp] theorem accept_env (wait : Bool) : (s.accept wait).env = s.env := rfl

/-! The flags a successful ACQUIRE writes (R210). -/
@[simp] theorem acquired_params (warned : Bool) : (s.acquired warned).params = s.params := rfl
@[simp] theorem acquired_regs (warned : Bool) : (s.acquired warned).regs = s.regs := rfl
@[simp] theorem acquired_state (warned : Bool) : (s.acquired warned).state = s.state := rfl
@[simp] theorem acquired_step (warned : Bool) : (s.acquired warned).step = s.step := rfl
@[simp] theorem acquired_beat (warned : Bool) : (s.acquired warned).beat = s.beat := rfl
@[simp] theorem acquired_init (warned : Bool) : (s.acquired warned).init = true := rfl
@[simp] theorem acquired_cfgv (warned : Bool) : (s.acquired warned).cfgv = s.cfgv := rfl
@[simp] theorem acquired_wait (warned : Bool) : (s.acquired warned).wait = s.wait := rfl
@[simp] theorem acquired_inflight (warned : Bool) : (s.acquired warned).inflight = s.inflight := rfl
@[simp] theorem acquired_err (warned : Bool) : (s.acquired warned).err = s.err := rfl
@[simp] theorem acquired_errstep (warned : Bool) : (s.acquired warned).errstep = s.errstep := rfl
@[simp] theorem acquired_warn (warned : Bool) : (s.acquired warned).warn = (s.warn || warned) := rfl
@[simp] theorem acquired_fs (warned : Bool) : (s.acquired warned).fs = s.fs := rfl
@[simp] theorem acquired_pa (warned : Bool) : (s.acquired warned).pa = s.pa := rfl
@[simp] theorem acquired_pb (warned : Bool) : (s.acquired warned).pb = s.pb := rfl
@[simp] theorem acquired_tr (warned : Bool) : (s.acquired warned).tr = s.tr := rfl
@[simp] theorem acquired_calls (warned : Bool) : (s.acquired warned).calls = s.calls := rfl
@[simp] theorem acquired_results (warned : Bool) : (s.acquired warned).results = s.results := rfl
@[simp] theorem acquired_env (warned : Bool) : (s.acquired warned).env = s.env := rfl

/-! PACK writes the two planes (R160). -/
@[simp] theorem packed_params : (s.packed).params = s.params := rfl
@[simp] theorem packed_regs : (s.packed).regs = s.regs := rfl
@[simp] theorem packed_state : (s.packed).state = s.state := rfl
@[simp] theorem packed_step : (s.packed).step = s.step := rfl
@[simp] theorem packed_beat : (s.packed).beat = s.beat := rfl
@[simp] theorem packed_init : (s.packed).init = s.init := rfl
@[simp] theorem packed_cfgv : (s.packed).cfgv = s.cfgv := rfl
@[simp] theorem packed_wait : (s.packed).wait = s.wait := rfl
@[simp] theorem packed_inflight : (s.packed).inflight = s.inflight := rfl
@[simp] theorem packed_err : (s.packed).err = s.err := rfl
@[simp] theorem packed_errstep : (s.packed).errstep = s.errstep := rfl
@[simp] theorem packed_warn : (s.packed).warn = s.warn := rfl
@[simp] theorem packed_fs : (s.packed).fs = s.fs := rfl
@[simp] theorem packed_pa : (s.packed).pa = planeA s := rfl
@[simp] theorem packed_pb : (s.packed).pb = planeB s := rfl
@[simp] theorem packed_tr : (s.packed).tr = s.tr := rfl
@[simp] theorem packed_calls : (s.packed).calls = s.calls := rfl
@[simp] theorem packed_results : (s.packed).results = s.results := rfl
@[simp] theorem packed_env : (s.packed).env = s.env := rfl

/-! The writes of a successful CONFIGURE (R120). -/
section
variable (e : ResEntry) (prof : Profile) (c : BitVec 2) (fh fv : Bool) (id : Option IdentityRecord)
@[simp] theorem configured_params : (s.configured e prof c fh fv id).params = s.params := rfl
@[simp] theorem configured_state : (s.configured e prof c fh fv id).state = s.state := rfl
@[simp] theorem configured_step : (s.configured e prof c fh fv id).step = s.step := rfl
@[simp] theorem configured_beat : (s.configured e prof c fh fv id).beat = s.beat := rfl
@[simp] theorem configured_init : (s.configured e prof c fh fv id).init = s.init := rfl
@[simp] theorem configured_cfgv : (s.configured e prof c fh fv id).cfgv = true := rfl
@[simp] theorem configured_wait : (s.configured e prof c fh fv id).wait = s.wait := rfl
@[simp] theorem configured_inflight : (s.configured e prof c fh fv id).inflight = s.inflight := rfl
@[simp] theorem configured_err : (s.configured e prof c fh fv id).err = s.err := rfl
@[simp] theorem configured_errstep : (s.configured e prof c fh fv id).errstep = s.errstep := rfl
@[simp] theorem configured_warn : (s.configured e prof c fh fv id).warn = s.warn := rfl
@[simp] theorem configured_fs : (s.configured e prof c fh fv id).fs = [] := rfl
@[simp] theorem configured_pa : (s.configured e prof c fh fv id).pa = s.pa := rfl
@[simp] theorem configured_pb : (s.configured e prof c fh fv id).pb = s.pb := rfl
@[simp] theorem configured_tr : (s.configured e prof c fh fv id).tr = s.tr := rfl
@[simp] theorem configured_calls : (s.configured e prof c fh fv id).calls = s.calls := rfl
@[simp] theorem configured_results : (s.configured e prof c fh fv id).results = s.results := rfl
@[simp] theorem configured_env : (s.configured e prof c fh fv id).env = s.env := rfl
@[simp] theorem configured_regs : (s.configured e prof c fh fv id).regs =
    ⟨e.w, e.h, e.cols, e.rows, e.rot, prof, lutselFn s.params prof id, borderAfter s.regs.border c, fh, fv⟩ := rfl
end

/-! The second event of an entry is due (R7). -/
@[simp] theorem secondDue_params : (s.secondDue).params = s.params := rfl
@[simp] theorem secondDue_regs : (s.secondDue).regs = s.regs := rfl
@[simp] theorem secondDue_state : (s.secondDue).state = s.state := rfl
@[simp] theorem secondDue_step : (s.secondDue).step = s.step := rfl
@[simp] theorem secondDue_init : (s.secondDue).init = s.init := rfl
@[simp] theorem secondDue_cfgv : (s.secondDue).cfgv = s.cfgv := rfl
@[simp] theorem secondDue_wait : (s.secondDue).wait = s.wait := rfl
@[simp] theorem secondDue_inflight : (s.secondDue).inflight = s.inflight := rfl
@[simp] theorem secondDue_err : (s.secondDue).err = s.err := rfl
@[simp] theorem secondDue_errstep : (s.secondDue).errstep = s.errstep := rfl
@[simp] theorem secondDue_warn : (s.secondDue).warn = s.warn := rfl
@[simp] theorem secondDue_fs : (s.secondDue).fs = s.fs := rfl
@[simp] theorem secondDue_pa : (s.secondDue).pa = s.pa := rfl
@[simp] theorem secondDue_pb : (s.secondDue).pb = s.pb := rfl
@[simp] theorem secondDue_tr : (s.secondDue).tr = s.tr := rfl
@[simp] theorem secondDue_calls : (s.secondDue).calls = s.calls := rfl
@[simp] theorem secondDue_results : (s.secondDue).results = s.results := rfl
@[simp] theorem secondDue_env : (s.secondDue).env = s.env := rfl
@[simp] theorem secondDue_beat : (s.secondDue).beat = .second := rfl

/-! The loop between two events (R201, R30): it moves `STEP`, or returns OK. -/

/-- What running the loop on to the next performed entry can do. -/
theorem skipTo_cases (es : List RomEntry) :
    (∃ e ∈ es, e.cond.holds s = true ∧ skipTo es s = { s with step := e.index }) ∨
    ((∀ e ∈ es, e.cond.holds s = false) ∧ skipTo es s = s.finish) := by
  induction es with
  | nil => exact .inr ⟨by simp, rfl⟩
  | cons e es ih =>
    by_cases h : e.cond.holds s = true
    · exact .inl ⟨e, by simp, h, by simp [skipTo, h]⟩
    · have hs : skipTo (e :: es) s = skipTo es s := by simp [skipTo, h]
      rw [hs]
      rcases ih with ⟨f, hf, hc, hr⟩ | ⟨hn, hr⟩
      · exact .inl ⟨f, by simp [hf], hc, hr⟩
      · exact .inr ⟨by simpa [h] using hn, hr⟩

@[simp] theorem skipTo_params (es : List RomEntry) : (skipTo es s).params = s.params := by
  rcases skipTo_cases s es with ⟨e, _, _, h⟩ | ⟨_, h⟩ <;> rw [h]
  rfl

@[simp] theorem skipTo_regs (es : List RomEntry) : (skipTo es s).regs = s.regs := by
  rcases skipTo_cases s es with ⟨e, _, _, h⟩ | ⟨_, h⟩ <;> rw [h]
  rfl

@[simp] theorem skipTo_state (es : List RomEntry) : (skipTo es s).state = s.state := by
  rcases skipTo_cases s es with ⟨e, _, _, h⟩ | ⟨_, h⟩ <;> rw [h]
  rfl

@[simp] theorem skipTo_init (es : List RomEntry) : (skipTo es s).init = s.init := by
  rcases skipTo_cases s es with ⟨e, _, _, h⟩ | ⟨_, h⟩ <;> rw [h]
  rfl

@[simp] theorem skipTo_cfgv (es : List RomEntry) : (skipTo es s).cfgv = s.cfgv := by
  rcases skipTo_cases s es with ⟨e, _, _, h⟩ | ⟨_, h⟩ <;> rw [h]
  rfl

@[simp] theorem skipTo_wait (es : List RomEntry) : (skipTo es s).wait = s.wait := by
  rcases skipTo_cases s es with ⟨e, _, _, h⟩ | ⟨_, h⟩ <;> rw [h]
  rfl

@[simp] theorem skipTo_err (es : List RomEntry) : (skipTo es s).err = s.err := by
  rcases skipTo_cases s es with ⟨e, _, _, h⟩ | ⟨_, h⟩ <;> rw [h]
  rfl

@[simp] theorem skipTo_errstep (es : List RomEntry) : (skipTo es s).errstep = s.errstep := by
  rcases skipTo_cases s es with ⟨e, _, _, h⟩ | ⟨_, h⟩ <;> rw [h]
  rfl

@[simp] theorem skipTo_warn (es : List RomEntry) : (skipTo es s).warn = s.warn := by
  rcases skipTo_cases s es with ⟨e, _, _, h⟩ | ⟨_, h⟩ <;> rw [h]
  rfl

@[simp] theorem skipTo_fs (es : List RomEntry) : (skipTo es s).fs = s.fs := by
  rcases skipTo_cases s es with ⟨e, _, _, h⟩ | ⟨_, h⟩ <;> rw [h]
  rfl

@[simp] theorem skipTo_pa (es : List RomEntry) : (skipTo es s).pa = s.pa := by
  rcases skipTo_cases s es with ⟨e, _, _, h⟩ | ⟨_, h⟩ <;> rw [h]
  rfl

@[simp] theorem skipTo_pb (es : List RomEntry) : (skipTo es s).pb = s.pb := by
  rcases skipTo_cases s es with ⟨e, _, _, h⟩ | ⟨_, h⟩ <;> rw [h]
  rfl

@[simp] theorem skipTo_tr (es : List RomEntry) : (skipTo es s).tr = s.tr := by
  rcases skipTo_cases s es with ⟨e, _, _, h⟩ | ⟨_, h⟩ <;> rw [h]
  rfl

@[simp] theorem skipTo_calls (es : List RomEntry) : (skipTo es s).calls = s.calls := by
  rcases skipTo_cases s es with ⟨e, _, _, h⟩ | ⟨_, h⟩ <;> rw [h]
  rfl

@[simp] theorem skipTo_env (es : List RomEntry) : (skipTo es s).env = s.env := by
  rcases skipTo_cases s es with ⟨e, _, _, h⟩ | ⟨_, h⟩ <;> rw [h]
  rfl

@[simp] theorem skipTo_beat (es : List RomEntry) : (skipTo es s).beat = s.beat := by
  rcases skipTo_cases s es with ⟨e, _, _, h⟩ | ⟨_, h⟩ <;> rw [h]
  rfl

@[simp] theorem settled_params : s.settled.params = s.params := skipTo_params s _
@[simp] theorem settled_regs : s.settled.regs = s.regs := skipTo_regs s _
@[simp] theorem settled_state : s.settled.state = s.state := skipTo_state s _
@[simp] theorem settled_init : s.settled.init = s.init := skipTo_init s _
@[simp] theorem settled_cfgv : s.settled.cfgv = s.cfgv := skipTo_cfgv s _
@[simp] theorem settled_wait : s.settled.wait = s.wait := skipTo_wait s _
@[simp] theorem settled_err : s.settled.err = s.err := skipTo_err s _
@[simp] theorem settled_errstep : s.settled.errstep = s.errstep := skipTo_errstep s _
@[simp] theorem settled_warn : s.settled.warn = s.warn := skipTo_warn s _
@[simp] theorem settled_fs : s.settled.fs = s.fs := skipTo_fs s _
@[simp] theorem settled_pa : s.settled.pa = s.pa := skipTo_pa s _
@[simp] theorem settled_pb : s.settled.pb = s.pb := skipTo_pb s _
@[simp] theorem settled_tr : s.settled.tr = s.tr := skipTo_tr s _
@[simp] theorem settled_calls : s.settled.calls = s.calls := skipTo_calls s _
@[simp] theorem settled_env : s.settled.env = s.env := skipTo_env s _
@[simp] theorem settled_beat : s.settled.beat = s.beat := skipTo_beat s _

@[simp] theorem advance_params : s.advance.params = s.params := skipTo_params s _
@[simp] theorem advance_regs : s.advance.regs = s.regs := skipTo_regs s _
@[simp] theorem advance_state : s.advance.state = s.state := skipTo_state s _
@[simp] theorem advance_init : s.advance.init = s.init := skipTo_init s _
@[simp] theorem advance_cfgv : s.advance.cfgv = s.cfgv := skipTo_cfgv s _
@[simp] theorem advance_wait : s.advance.wait = s.wait := skipTo_wait s _
@[simp] theorem advance_err : s.advance.err = s.err := skipTo_err s _
@[simp] theorem advance_errstep : s.advance.errstep = s.errstep := skipTo_errstep s _
@[simp] theorem advance_warn : s.advance.warn = s.warn := skipTo_warn s _
@[simp] theorem advance_fs : s.advance.fs = s.fs := skipTo_fs s _
@[simp] theorem advance_pa : s.advance.pa = s.pa := skipTo_pa s _
@[simp] theorem advance_pb : s.advance.pb = s.pb := skipTo_pb s _
@[simp] theorem advance_tr : s.advance.tr = s.tr := skipTo_tr s _
@[simp] theorem advance_calls : s.advance.calls = s.calls := skipTo_calls s _
@[simp] theorem advance_env : s.advance.env = s.env := skipTo_env s _
@[simp] theorem advance_beat : s.advance.beat = s.beat := skipTo_beat s _

/-! Going on after an event and beginning an UPDATE (R201). -/
@[simp] theorem goOn_params : s.goOn.params = s.params := by unfold State.goOn; split <;> simp
@[simp] theorem goOn_regs : s.goOn.regs = s.regs := by unfold State.goOn; split <;> simp
@[simp] theorem goOn_state : s.goOn.state = s.state := by unfold State.goOn; split <;> simp
@[simp] theorem goOn_init : s.goOn.init = s.init := by unfold State.goOn; split <;> simp
@[simp] theorem goOn_cfgv : s.goOn.cfgv = s.cfgv := by unfold State.goOn; split <;> simp
@[simp] theorem goOn_wait : s.goOn.wait = s.wait := by unfold State.goOn; split <;> simp
@[simp] theorem goOn_err : s.goOn.err = s.err := by unfold State.goOn; split <;> simp
@[simp] theorem goOn_errstep : s.goOn.errstep = s.errstep := by unfold State.goOn; split <;> simp
@[simp] theorem goOn_warn : s.goOn.warn = s.warn := by unfold State.goOn; split <;> simp
@[simp] theorem goOn_fs : s.goOn.fs = s.fs := by unfold State.goOn; split <;> simp
@[simp] theorem goOn_pa : s.goOn.pa = s.pa := by unfold State.goOn; split <;> simp
@[simp] theorem goOn_pb : s.goOn.pb = s.pb := by unfold State.goOn; split <;> simp
@[simp] theorem goOn_tr : s.goOn.tr = s.tr := by unfold State.goOn; split <;> simp
@[simp] theorem goOn_calls : s.goOn.calls = s.calls := by unfold State.goOn; split <;> simp
@[simp] theorem goOn_env : s.goOn.env = s.env := by unfold State.goOn; split <;> simp
@[simp] theorem goOn_beat : s.goOn.beat = s.beat := by unfold State.goOn; split <;> simp

@[simp] theorem begun_params : s.begun.params = s.params := by unfold State.begun; split <;> simp
@[simp] theorem begun_regs : s.begun.regs = s.regs := by unfold State.begun; split <;> simp
@[simp] theorem begun_state : s.begun.state = s.state := by unfold State.begun; split <;> simp
@[simp] theorem begun_init : s.begun.init = s.init := by unfold State.begun; split <;> simp
@[simp] theorem begun_cfgv : s.begun.cfgv = s.cfgv := by unfold State.begun; split <;> simp
@[simp] theorem begun_wait : s.begun.wait = s.wait := by unfold State.begun; split <;> simp
@[simp] theorem begun_err : s.begun.err = s.err := by unfold State.begun; split <;> simp
@[simp] theorem begun_errstep : s.begun.errstep = s.errstep := by unfold State.begun; split <;> simp
@[simp] theorem begun_warn : s.begun.warn = s.warn := by unfold State.begun; split <;> simp
@[simp] theorem begun_fs : s.begun.fs = s.fs := by unfold State.begun; split <;> simp
@[simp] theorem begun_pa : s.begun.pa = s.pa := by unfold State.begun; split <;> simp
@[simp] theorem begun_pb : s.begun.pb = s.pb := by unfold State.begun; split <;> simp
@[simp] theorem begun_tr : s.begun.tr = s.tr := by unfold State.begun; split <;> simp
@[simp] theorem begun_calls : s.begun.calls = s.calls := by unfold State.begun; split <;> simp
@[simp] theorem begun_env : s.begun.env = s.env := by unfold State.begun; split <;> simp
@[simp] theorem begun_beat : s.begun.beat = s.beat := by unfold State.begun; split <;> simp

end Sys2Proof.Machine
end

