-- ==== Sys2Proof/Laws/Ops.lean ====
section
/-! SUPPORT. One lemma per shared operation that says once what it can do: the environment's answers, the frame, the wait, and what
every instruction of the register ROM leaves alone. -/

namespace Sys2Proof.Machine

/-! ### The environment -/

theorem peek_eq_answer (e : Env) : e.peek = e.answer 0 := by
  obtain ⟨script, rest⟩ := e
  cases script <;> rfl

theorem next_eq_drop (e : Env) : e.next = e.drop 1 := by
  obtain ⟨script, rest⟩ := e
  cases script <;> rfl

@[simp] theorem answer_drop (e : Env) (n k : Nat) : (e.drop n).answer k = e.answer (n + k) := by
  simp [Env.answer, Env.drop, List.getD_eq_getElem?_getD]

@[simp] theorem drop_drop (e : Env) (n k : Nat) : (e.drop n).drop k = e.drop (n + k) := by
  simp [Env.drop]

@[simp] theorem drop_zero (e : Env) : e.drop 0 = e := rfl

@[simp] theorem peek_next (e : Env) : e.next.peek = e.answer 1 := by
  rw [peek_eq_answer, next_eq_drop, answer_drop]

/-! ### The frame -/

/-- The command of a frame with a payload, granted: the data is due after it (R214). -/
theorem sendFrame_command {op : Byte} {payload : List Byte} {s : State} (hp : payload ≠ []) (hb : s.beat = .first)
    (h : (s.env.answer 0).fails = false) : sendFrame op payload s = (s.afterEvents [.cmd op .done]).secondDue := by
  simp [sendFrame, hp, hb, sendCmd, peek_eq_answer, h, State.emitCmd, State.emit, Answer.send, next_eq_drop, State.afterEvents]

/-- The data of a frame, granted (R214). -/
theorem sendFrame_data {op : Byte} {payload : List Byte} {s : State} (hp : payload ≠ []) (hb : s.beat = .second)
    (h : (s.env.answer 0).fails = false) : sendFrame op payload s = s.afterEvents [.data payload .done] := by
  simp [sendFrame, hp, hb, sendData, peek_eq_answer, h, State.emitData, State.emit, Answer.send, next_eq_drop, State.afterEvents]

/-- A frame without a payload, granted: one command (R71, R214). -/
theorem sendFrame_bare {op : Byte} {s : State} (h : (s.env.answer 0).fails = false) :
    sendFrame op [] s = s.afterEvents [.cmd op .done] := by
  simp [sendFrame, sendCmd, peek_eq_answer, h, State.emitCmd, State.emit, Answer.send, next_eq_drop, State.afterEvents]

/-- The event of a frame that is due fails: it is on the trace, and the trap is taken (R214, R286). -/
theorem sendFrame_fails {op : Byte} {payload : List Byte} {s : State} (h : (s.env.answer 0).fails = true) :
    sendFrame op payload s =
      (s.afterEvents [if payload ≠ [] ∧ s.beat = .second then .data payload .failed else .cmd op .failed]).trap .transport := by
  cases payload <;> cases hb : s.beat <;>
    simp [sendFrame, sendCmd, sendData, peek_eq_answer, h, hb, State.emitCmd, State.emitData, State.emit, Answer.send,
      next_eq_drop, State.afterEvents]

/-! ### What an instruction of the register ROM does and leaves alone -/

/-- The effect of the due event of an instruction of the register ROM (R7, R210 to R214, R295): one event is appended; registers,
configuration flag, `WAIT`, the stores, the waiting calls and the parameters stay; it either goes on with the program counter and
the result list untouched, or takes a trap, which is a timeout only for a wait; a second event is due only where the instruction has
one and the first was due. -/
structure EntryEffect (i : Instr) (s t : State) : Prop where
  params : t.params = s.params
  regs : t.regs = s.regs
  cfgv : t.cfgv = s.cfgv
  wait : t.wait = s.wait
  fs : t.fs = s.fs
  pa : t.pa = s.pa
  pb : t.pb = s.pb
  calls : t.calls = s.calls
  event : ∃ ev, t.tr = s.tr ++ [ev]
  init : s.init = true → t.init = true
  warn : s.warn = true → t.warn = true
  beat : t.beat = .second → s.beat = .first ∧ hasSecondEvent i = true ∧ t.inflight = s.inflight
  ends :
    (t.state = s.state ∧ t.step = s.step ∧ t.inflight = s.inflight ∧ t.err = s.err ∧ t.errstep = s.errstep ∧
      t.results = s.results) ∨
    (∃ c : Trap, t.state = .error ∧ t.step = 0 ∧ t.inflight = false ∧ t.err = c.cause ∧ t.errstep = s.step ∧
      t.results = s.results ++ [c.result s.step] ∧ ∀ cause, c = .timeout cause → ∃ w, i = .waitbusy w cause)

/-- The last event of an instruction. -/
theorem entryEffect_emit (i : Instr) (ev : Answer → Event) (s : State) : EntryEffect i s (s.emit ev) :=
  ⟨rfl, rfl, rfl, rfl, rfl, rfl, rfl, rfl, ⟨_, rfl⟩, id, id, fun h => by simp at h, .inl ⟨rfl, rfl, rfl, rfl, rfl, rfl⟩⟩

/-- The first of two events. -/
theorem entryEffect_emit_first {i : Instr} (hi : hasSecondEvent i = true) {s : State} (hb : s.beat = .first)
    (ev : Answer → Event) : EntryEffect i s (s.emit ev).secondDue :=
  ⟨rfl, rfl, rfl, rfl, rfl, rfl, rfl, rfl, ⟨_, rfl⟩, id, id, fun _ => ⟨hb, hi, rfl⟩, .inl ⟨rfl, rfl, rfl, rfl, rfl, rfl⟩⟩

/-- An event that raises. -/
theorem entryEffect_emit_trap {i : Instr} {c : Trap} (hc : ∀ cause, c = .timeout cause → ∃ w, i = .waitbusy w cause)
    (ev : Answer → Event) (s : State) : EntryEffect i s ((s.emit ev).trap c) :=
  ⟨rfl, rfl, rfl, rfl, rfl, rfl, rfl, rfl, ⟨_, rfl⟩, id, id, fun h => by simp at h,
    .inr ⟨c, rfl, rfl, rfl, rfl, rfl, rfl, hc⟩⟩

/-- A failed event. -/
theorem entryEffect_emit_transport (i : Instr) (ev : Answer → Event) (s : State) :
    EntryEffect i s ((s.emit ev).trap .transport) := entryEffect_emit_trap (fun _ h => by cases h) ev s

/-- A frame (R214). -/
theorem entryEffect_sendFrame {i : Instr} {payload : List Byte} (hi : payload ≠ [] → hasSecondEvent i = true) (op : Byte)
    (s : State) : EntryEffect i s (sendFrame op payload s) := by
  unfold sendFrame
  split
  · unfold sendCmd
    split
    · exact entryEffect_emit_transport i _ s
    · rw [if_neg (by simp)]
      exact entryEffect_emit i _ s
  · rename_i hp
    split
    · rename_i hb
      unfold sendCmd
      split
      · exact entryEffect_emit_transport i _ s
      · exact entryEffect_emit_first (hi (by simpa using hp)) hb _
    · unfold sendData
      split
      · exact entryEffect_emit_transport i _ s
      · exact entryEffect_emit i _ s

/-- ACQUIRE where the transport is not yet acquired (R210). -/
theorem exec_acquire_effect {s : State} (h : s.init = false) : ∃ t, exec .acquire s = .next t ∧ EntryEffect .acquire s t := by
  refine ⟨_, rfl, ?_⟩
  rw [if_neg (by simp [h])]
  split
  · exact entryEffect_emit_transport _ _ s
  · refine ⟨rfl, rfl, rfl, rfl, rfl, rfl, rfl, rfl, ⟨_, rfl⟩, fun _ => rfl, fun h => ?_, fun h => ?_,
      .inl ⟨rfl, rfl, rfl, rfl, rfl, rfl⟩⟩
    · simp [State.emitAcquire, h]
    · simp [State.emitAcquire] at h

/-- RSTLINE (R211). -/
theorem exec_rstline_effect (lvl : LineLevel) (s : State) :
    ∃ t, exec (.rstline lvl) s = .next t ∧ EntryEffect (.rstline lvl) s t := by
  refine ⟨_, rfl, ?_⟩
  split
  · exact entryEffect_emit_transport _ _ s
  · exact entryEffect_emit _ _ s

/-- DELAY (R212). -/
theorem exec_delay_effect (ms : Nat) (s : State) : ∃ t, exec (.delay ms) s = .next t ∧ EntryEffect (.delay ms) s t :=
  ⟨_, rfl, rfl, rfl, rfl, rfl, rfl, rfl, rfl, rfl, ⟨_, rfl⟩, id, id, fun h => by simp at h,
    .inl ⟨rfl, rfl, rfl, rfl, rfl, rfl⟩⟩

/-- WAITBUSY (R213). -/
theorem exec_waitbusy_effect (w : Nat) (c : TimeoutCause) (s : State) :
    ∃ t, exec (.waitbusy w c) s = .next t ∧ EntryEffect (.waitbusy w c) s t := by
  refine ⟨_, rfl, ?_⟩
  split
  · rename_i hb
    unfold checkBusy
    split
    · exact entryEffect_emit_transport _ _ s
    · split
      · exact entryEffect_emit _ _ s
      · exact entryEffect_emit_first rfl hb _
  · unfold awaitEdge
    split
    · exact entryEffect_emit_transport _ _ s
    · split
      · exact entryEffect_emit _ _ s
      · exact entryEffect_emit_trap (fun _ h => ⟨w, by cases h; rfl⟩) _ s

/-- BORDER_MATCH where an arm matches (R251). -/
theorem exec_borderMatch_arm {s : State} {b : Byte} (h : b ∈ matchedBorder s) :
    exec .borderMatch s = .next (sendFrame s.params.op.border [b] s) := by
  rw [Option.mem_def] at h
  simp [exec, execBorderMatch, h]

/-- A condition reads the parameters, the registers, `INIT` and `WAIT` alone (R203). -/
theorem holds_congr {s t : State} (hp : t.params = s.params) (hr : t.regs = s.regs) (hi : t.init = s.init)
    (hw : t.wait = s.wait) (c : Condition) : c.holds t = c.holds s := by
  cases c <;> simp [Condition.holds, matchedBorder, redAtOverrideRes, hp, hr, hi, hw]

/-- An entry of the register ROM whose condition holds answers a next state, with an entry's effect: one event (R7, R203). -/
theorem exec_romEntry (p : Params) (k : RomIndex) {s : State} (h : (romEntry p k).cond.holds s = true) :
    ∃ t, exec (romEntry p k).instr s = .next t ∧ EntryEffect (romEntry p k).instr s t := by
  have frame : ∀ {i : Instr} (op : Byte) (payload : List Byte), (payload ≠ [] → hasSecondEvent i = true) →
      exec i s = .next (sendFrame op payload s) → ∃ t, exec i s = .next t ∧ EntryEffect i s t :=
    fun op payload hi hx => ⟨_, hx, entryEffect_sendFrame hi op s⟩
  fin_cases k <;> first
    | exact exec_rstline_effect _ s
    | exact exec_delay_effect _ s
    | exact exec_waitbusy_effect _ _ s
    | exact frame _ _ (fun h => absurd rfl h) rfl
    | exact frame _ _ (fun _ => rfl) rfl
    | exact exec_acquire_effect (by simpa [romEntry, romReg, romReset, Condition.holds] using h)
    | exact frame _ _ (fun _ => rfl) (exec_borderMatch_arm (Option.get_mem h))
    | exact frame _ _ (fun _ => rfl) (congrArg _ (if_pos (of_decide_eq_true h)))
    | exact frame _ _ (fun _ => rfl) (congrArg _ (if_pos h))

/-! ### Host operations -/

/-- The gate of a host operation answers a next state only while no UPDATE is in flight. -/
theorem whenIdle_next {s t : State} {go : Result} (h : whenIdle s go = .next t) : s.inflight = false ∧ go = .next t := by
  unfold whenIdle at h
  split at h
  · cases h
  · exact ⟨by simp_all, h⟩

/-- The gate of the other host operations answers a next state only after a CONFIGURE. -/
theorem whenConfigured_next {s t : State} {go : Result} (h : whenConfigured s go = .next t) :
    s.inflight = false ∧ s.cfgv = true ∧ go = .next t := by
  obtain ⟨hi, hg⟩ := whenIdle_next h
  split at hg
  · exact ⟨hi, by simp_all, hg⟩
  · cases hg

theorem whenIdle_go {s : State} (go : Result) (h : s.inflight = false) : whenIdle s go = go := by
  simp [whenIdle, h]

theorem whenConfigured_go {s : State} (go : Result) (h : s.inflight = false) (hc : s.cfgv = true) :
    whenConfigured s go = go := by
  simp [whenConfigured, whenIdle, h, hc]

/-- What CONFIGURE can do (R120). -/
theorem exec_configure_cases {w h : Nat} {name : String} {c : BitVec 2} {fh fv : Bool} {id : Option IdentityRecord} {s t : State}
    (hx : exec (.configure w h name c fh fv id) s = .next t) :
    s.inflight = false ∧
      ((∃ r, r ≠ .ok ∧ t = s.reply r) ∨
       (∃ e prof, romRes s.params w h = some e ∧ profileOfName name = some prof ∧ identityMatches w h id = true ∧
          t = (s.configured e prof c fh fv id).reply .ok)) := by
  obtain ⟨hi, hg⟩ := whenIdle_next hx
  refine ⟨hi, ?_⟩
  split at hg
  · cases hg; exact .inl ⟨_, by simp, rfl⟩
  · cases hg; exact .inl ⟨_, by simp, rfl⟩
  · rename_i e prof he hp
    split at hg
    · cases hg; exact .inr ⟨e, prof, he, hp, rfl, rfl⟩
    · split at hg
      · rename_i hm
        cases hg; exact .inr ⟨e, prof, he, hp, hm, rfl⟩
      · cases hg; exact .inl ⟨_, by simp, rfl⟩

/-- What SETBORDER can do (R126). -/
theorem exec_setborder_cases {c : BitVec 2} {s t : State} (hx : exec (.setborder c) s = .next t) :
    s.inflight = false ∧ s.cfgv = true ∧
      t = State.reply .ok { s with regs := { s.regs with border := borderAfter s.regs.border c } } := by
  obtain ⟨hi, hc, hg⟩ := whenConfigured_next hx
  cases hg
  exact ⟨hi, hc, rfl⟩

/-- What SETPIXEL can do (R140). -/
theorem exec_setpixel_cases {x y : Int} {c : Byte} {s t : State} (hx : exec (.setpixel x y c) s = .next t) :
    s.inflight = false ∧ s.cfgv = true ∧
      ((∃ r, t = s.reply r) ∨
       (validColor c = true ∧ inBounds x y s = true ∧
          t = State.reply .ok { s with fs := s.fs.write (s.cellAddress x.toNat y.toNat) c })) := by
  obtain ⟨hi, hc, hg⟩ := whenConfigured_next hx
  refine ⟨hi, hc, ?_⟩
  split at hg
  · cases hg; exact .inl ⟨_, rfl⟩
  · split at hg
    · cases hg; exact .inl ⟨_, rfl⟩
    · cases hg; exact .inr ⟨by simp_all, by simp_all, rfl⟩

/-- What LOADFRAME can do (R143). -/
theorem exec_loadframe_cases {raster : List Byte} {s t : State} (hx : exec (.loadframe raster) s = .next t) :
    s.inflight = false ∧ s.cfgv = true ∧ raster.length = s.cellCount ∧
      t = State.reply .ok { s with fs := Memory.ofCells 0 raster } := by
  obtain ⟨hi, hc, hg⟩ := whenConfigured_next hx
  split at hg
  · rename_i hl
    cases hg; exact ⟨hi, hc, hl, rfl⟩
  · cases hg

/-- What UPDATE's acceptance can do (R201). -/
theorem exec_update_cases {wait : Bool} {s t : State} (hx : exec (.update wait) s = .next t) :
    s.inflight = false ∧ s.cfgv = true ∧ t = (s.accept wait).packed := by
  obtain ⟨hi, hc, hg⟩ := whenConfigured_next hx
  cases hg
  exact ⟨hi, hc, rfl⟩

/-! ### One step -/

/-- What one step can do: emit the due event of the entry at `STEP` and go on; pass over an entry that is not performed; run the
caller's next operation; or nothing. -/
theorem step_cases {s t : State} (h : step s = .next t) :
    (∃ u, s.inflight = true ∧ s.fetch.cond.holds s = true ∧ exec s.fetch.instr { s with state := s.fetch.state } = .next u ∧
      EntryEffect s.fetch.instr { s with state := s.fetch.state } u ∧ t = u.goOn) ∨
    (s.inflight = true ∧ s.fetch.cond.holds s = false ∧ t = s.settled) ∨
    (s.inflight = false ∧ s.calls = [] ∧ t = s) ∨
    (∃ op rest u, s.inflight = false ∧ s.calls = op :: rest ∧ exec op.toInstr { s with calls := rest } = .next u ∧
      t = u.begun) := by
  unfold step at h
  split at h
  · rename_i hi
    unfold runEntry at h
    split at h
    · rename_i hc
      obtain ⟨u, hu, he⟩ := exec_romEntry s.params s.step (s := { s with state := s.fetch.state })
        ((holds_congr (s := s) (t := { s with state := s.fetch.state }) rfl rfl rfl rfl _).trans hc)
      have hx : exec s.fetch.instr { s with state := s.fetch.state } = .next u := hu
      rw [hx] at h
      exact .inl ⟨u, hi, hc, hx, he, by simpa [thenState] using h.symm⟩
    · rename_i hc
      cases h
      exact .inr (.inl ⟨hi, by simpa using hc, rfl⟩)
  · rename_i hi
    have hi' : s.inflight = false := by simpa using hi
    unfold runCall at h
    split at h
    · cases h; exact .inr (.inr (.inl ⟨hi', ‹_›, rfl⟩))
    · rename_i op rest hc
      cases hx : exec op.toInstr { s with calls := rest } with
      | next u =>
        rw [hx] at h
        exact .inr (.inr (.inr ⟨op, rest, u, hi', hc, hx, by simpa [thenState] using h.symm⟩))
      | fault f => rw [hx] at h; cases h
      | refused r => rw [hx] at h; cases h

end Sys2Proof.Machine
end

