-- ==== Sys2Proof/Laws/Packer.lean ====
section
/-! SUPPORT. The packer: which bit of which byte a pixel becomes (42_plane_packer.md R168), the shape of the turned grid (R163). -/

namespace Sys2Proof.Machine

/-- The sum of R168 puts bit `i` of the stream at bit `7 - i` of the byte. -/
theorem packByte_bit (bit : Nat → Bool) {i : Nat} (h : i < 8) : (packByte bit).getLsbD (7 - i) = bit i := by
  have key : ∀ b0 b1 b2 b3 b4 b5 b6 b7 : Bool, ∀ i : Fin 8,
      (BitVec.ofNat 8 ((if b0 then 128 else 0) + ((if b1 then 64 else 0) + ((if b2 then 32 else 0) + ((if b3 then 16 else 0) +
        ((if b4 then 8 else 0) + ((if b5 then 4 else 0) + ((if b6 then 2 else 0) + (if b7 then 1 else 0)))))))) ).getLsbD
          (7 - i.val) = [b0, b1, b2, b3, b4, b5, b6, b7].get i := by
    decide
  have hb : packByte bit = BitVec.ofNat 8 ((if bit 0 then 128 else 0) + ((if bit 1 then 64 else 0) + ((if bit 2 then 32 else 0) +
      ((if bit 3 then 16 else 0) + ((if bit 4 then 8 else 0) + ((if bit 5 then 4 else 0) + ((if bit 6 then 2 else 0) +
        (if bit 7 then 1 else 0)))))))) := by
    simp [packByte, List.range, List.range.loop]
  rw [hb, key (bit 0) (bit 1) (bit 2) (bit 3) (bit 4) (bit 5) (bit 6) (bit 7) ⟨i, h⟩]
  match i, h with
  | 0, _ | 1, _ | 2, _ | 3, _ | 4, _ | 5, _ | 6, _ | 7, _ => rfl

/-- A packed stream of `n` bits has `ceil(n / 8)` bytes. -/
@[simp] theorem bitpack_length (n : Nat) (bit : Nat → Bool) : (bitpack n bit).length = (n + 7) / 8 := by
  simp [bitpack]

/-- Byte `j` of a packed stream. -/
theorem bitpack_getD {n : Nat} (bit : Nat → Bool) {j : Nat} (hj : j < (n + 7) / 8) :
    (bitpack n bit).getD j 0 = packByte (fun i => decide (8 * j + i < n) && bit (8 * j + i)) := by
  simp [bitpack, hj]

/-- Bit `7 - i` of byte `j` is stream bit `8 j + i`, and 0 past the end (R168). -/
theorem bitpack_bit {n : Nat} (bit : Nat → Bool) {j i : Nat} (hj : j < (n + 7) / 8) (hi : i < 8) :
    ((bitpack n bit).getD j 0).getLsbD (7 - i) = (decide (8 * j + i < n) && bit (8 * j + i)) := by
  rw [bitpack_getD bit hj, packByte_bit _ hi]

/-- Packing depends only on the bits of the stream. -/
theorem bitpack_congr {n : Nat} {f g : Nat → Bool} (h : ∀ k, k < n → f k = g k) : bitpack n f = bitpack n g := by
  unfold bitpack
  refine List.map_congr_left fun j _ => ?_
  congr 1
  funext i
  by_cases hk : 8 * j + i < n
  · simp [hk, h _ hk]
  · simp [hk]

@[simp] theorem planeA_length (s : State) : (planeA s).length = (s.cellCount + 7) / 8 := bitpack_length _ _

@[simp] theorem planeB_length (s : State) : (planeB s).length = (s.cellCount + 7) / 8 := bitpack_length _ _

@[simp] theorem flipV_rows (on : Bool) (g : Grid) : (flipV on g).rows = g.rows := by cases on <;> rfl

@[simp] theorem flipV_cols (on : Bool) (g : Grid) : (flipV on g).cols = g.cols := by cases on <;> rfl

@[simp] theorem flipH_rows (on : Bool) (g : Grid) : (flipH on g).rows = g.rows := by cases on <;> rfl

@[simp] theorem flipH_cols (on : Bool) (g : Grid) : (flipH on g).cols = g.cols := by cases on <;> rfl

/-- Row `a`, column `b` of a grid is position `a * cols + b` of its stream (R164). -/
theorem flatten_at (g : Grid) {a b : Nat} (hb : b < g.cols) : flatten g (a * g.cols + b) = g.cell a b := by
  have hdiv : (a * g.cols + b) / g.cols = a := by
    rw [Nat.mul_comm, Nat.mul_add_div (by omega), Nat.div_eq_of_lt hb, Nat.add_zero]
  have hmod : (a * g.cols + b) % g.cols = b := by
    rw [Nat.mul_comm, Nat.mul_add_mod, Nat.mod_eq_of_lt hb]
  simp [flatten, hdiv, hmod]

end Sys2Proof.Machine
end

