-- ==== Sys2Proof/Laws/PerInstr.lean ====
section
/-! SUPPORT. Statements made per instruction: the opcode of a frame, read at a register-ROM entry where the frame stands, decodes to
that frame (30_encoding.md R95). -/

namespace Sys2Proof.Laws.DecodesAtItsEntry

/-- At every ROM entry of a frame its opcode decodes to it, for all pairwise distinct opcodes; an instruction that is no frame has
no opcode and no entry. -/
def Statement (i : Instr) : Prop :=
  ∀ (op : OpcodeParams) (b : Byte) (k : RomIndex), opcodesDistinct op = true → opcodeOf op i = some b → k ∈ entriesOf i →
    decodeOpcode op (some k) b = some i

/-- A frame whose opcode is the key of row `n` of the decoder's table. -/
theorem of_row {i j : Instr} (n : Nat) (hm : ∀ op : OpcodeParams, ∃ b, opcodeOf op i = some b ∧ (opcodeMap op)[n]? = some (b, j))
    (he : ∀ k ∈ entriesOf i, atEntry (some k) j = i) : Statement i := by
  intro op b k hd hb hk
  obtain ⟨c, hc, hr⟩ := hm op
  have : c = b := by rw [hc] at hb; exact Option.some.inj hb
  subst this
  rw [decodeOpcode_row hd (List.mem_of_getElem? hr), he k hk]

/-- An instruction that is no frame. -/
theorem of_no_opcode {i : Instr} (h : ∀ op : OpcodeParams, opcodeOf op i = none) : Statement i := by
  intro op b k _ hb _
  rw [h op] at hb
  cases hb

theorem swreset : Statement .swreset := of_row 0 (fun _ => ⟨_, rfl, rfl⟩) (by decide)

theorem analogBlock : Statement .analogBlock := of_row 1 (fun _ => ⟨_, rfl, rfl⟩) (by decide)

theorem digitalBlock : Statement .digitalBlock := of_row 2 (fun _ => ⟨_, rfl, rfl⟩) (by decide)

theorem gateSetting : Statement .gateSetting := of_row 3 (fun _ => ⟨_, rfl, rfl⟩) (by decide)

theorem gateVolt : Statement .gateVolt := of_row 4 (fun _ => ⟨_, rfl, rfl⟩) (by decide)

theorem sourceVolt : Statement .sourceVolt := of_row 5 (fun _ => ⟨_, rfl, rfl⟩) (by decide)

theorem dummyLine : Statement .dummyLine := of_row 6 (fun _ => ⟨_, rfl, rfl⟩) (by decide)

theorem gateWidth : Statement .gateWidth := of_row 7 (fun _ => ⟨_, rfl, rfl⟩) (by decide)

theorem dataEntry : Statement .dataEntry := of_row 8 (fun _ => ⟨_, rfl, rfl⟩) (by decide)

theorem vcom : Statement .vcom := of_row 9 (fun _ => ⟨_, rfl, rfl⟩) (by decide)

theorem borderDefault : Statement .borderDefault := of_row 10 (fun _ => ⟨_, rfl, rfl⟩) (by decide)

theorem borderMatch : Statement .borderMatch := of_row 10 (fun _ => ⟨_, rfl, rfl⟩) (by decide)

theorem sourceVoltY : Statement .sourceVoltY := of_row 5 (fun _ => ⟨_, rfl, rfl⟩) (by decide)

theorem sourceVoltR : Statement .sourceVoltR := of_row 5 (fun _ => ⟨_, rfl, rfl⟩) (by decide)

theorem lutLoad : Statement .lutLoad := of_row 11 (fun _ => ⟨_, rfl, rfl⟩) (by decide)

theorem ramXWindow : Statement .ramXWindow := of_row 12 (fun _ => ⟨_, rfl, rfl⟩) (by decide)

theorem ramYWindow : Statement .ramYWindow := of_row 13 (fun _ => ⟨_, rfl, rfl⟩) (by decide)

theorem ramXPtr : Statement .ramXPtr := of_row 14 (fun _ => ⟨_, rfl, rfl⟩) (by decide)

theorem ramYPtr : Statement .ramYPtr := of_row 15 (fun _ => ⟨_, rfl, rfl⟩) (by decide)

theorem ramWriteA : Statement .ramWriteA := of_row 16 (fun _ => ⟨_, rfl, rfl⟩) (by decide)

theorem ramWriteB : Statement .ramWriteB := of_row 17 (fun _ => ⟨_, rfl, rfl⟩) (by decide)

theorem updateCtrl : Statement .updateCtrl := of_row 18 (fun _ => ⟨_, rfl, rfl⟩) (by decide)

theorem activate : Statement .activate := of_row 19 (fun _ => ⟨_, rfl, rfl⟩) (by decide)

theorem deepSleep : Statement .deepSleep := of_row 20 (fun _ => ⟨_, rfl, rfl⟩) (by decide)

theorem acquire : Statement .acquire := of_no_opcode fun _ => rfl

theorem rstline (lvl : LineLevel) : Statement (.rstline lvl) := of_no_opcode fun _ => rfl

theorem delay (ms : Nat) : Statement (.delay ms) := of_no_opcode fun _ => rfl

theorem waitbusy (t : Nat) (cause : TimeoutCause) : Statement (.waitbusy t cause) := of_no_opcode fun _ => rfl

theorem frame (op : Byte) (payload : List Byte) : Statement (.frame op payload) := of_no_opcode fun _ => rfl

theorem configure (w h : Nat) (colorProfile : String) (borderColor : BitVec 2) (flipHorizontal flipVertical : Bool) (identity : Option IdentityRecord) :
    Statement (.configure w h colorProfile borderColor flipHorizontal flipVertical identity) := of_no_opcode fun _ => rfl

theorem setborder (color : BitVec 2) : Statement (.setborder color) := of_no_opcode fun _ => rfl

theorem setpixel (x y : Int) (color : Byte) : Statement (.setpixel x y color) := of_no_opcode fun _ => rfl

theorem loadframe (raster : List Byte) : Statement (.loadframe raster) := of_no_opcode fun _ => rfl

theorem update (wait : Bool) : Statement (.update wait) := of_no_opcode fun _ => rfl

theorem pack : Statement .pack := of_no_opcode fun _ => rfl

theorem lutsel (prof : Profile) (identity : Option IdentityRecord) :
    Statement (.lutsel prof identity) := of_no_opcode fun _ => rfl

end Sys2Proof.Laws.DecodesAtItsEntry
end

