-- ==== Sys2Proof/Tests/Slice0.lean ====
section
/-! SUPPORT. The model's own tests. Expected values come from 95_test_vectors.md, from the examples of the rules, or from hand
arithmetic over them; opcode bytes are written out from 30_encoding.md R96. Under the default parameters (log entry 2). -/

namespace Sys2Proof.Tests
open Sys2Proof Sys2Proof.Machine

/-! ### Helpers -/

/-- The next state of an outcome, if it is one. -/
def nextOf : Result → Option State
  | .next s => some s
  | .fault _ => none
  | .refused _ => none

/-- The refusal of an outcome, if it is one. -/
def refusalOf : Result → Option Refusal
  | .next _ => none
  | .fault _ => none
  | .refused r => some r

/-- A table of 70 known bytes. -/
def lutOf (b : Byte) : LutTable := ⟨Vector.replicate 35 b, Vector.replicate 35 (b + 1)⟩

/-- Parameters with two small resolutions, valid by `test_small_params_valid`. -/
def smallParams : Params :=
  { Config.defaultParams with
    resTable := [⟨8, 2, 8, 2, .rot0⟩, ⟨3, 8, 8, 3, .rotM90⟩, ⟨400, 300, 400, 300, .rot0⟩, ⟨212, 104, 104, 212, .rotM90⟩,
      ⟨250, 122, 250, 122, .rotM90⟩]
    lut := ⟨lutOf 1, lutOf 3, lutOf 5, lutOf 7⟩ }

def okAnswer : Answer := ⟨false, false, .ready, true⟩
def warnAnswer : Answer := ⟨false, true, .ready, true⟩
def failAnswer : Answer := ⟨true, false, .ready, true⟩
def busyAnswer : Answer := ⟨false, false, .busy, true⟩
def noEdgeAnswer : Answer := ⟨false, false, .busy, false⟩

/-- A configured block at rest, W by H with the given cells, upright. -/
def world (w h : Nat) (cells : List Byte) : State :=
  { State.reset with
    params := smallParams, cfgv := true, fs := Memory.ofCells 0 cells
    regs := { Regs.reset with w := w, h := h, cols := w, rows := h } }

/-- The 8 by 2 block, cell 0 BLACK and cell 9 ACCENT. -/
def small : State := world 8 2 [1, 0, 0, 0, 0, 0, 0, 0, 0, 2]

/-- The small block with the environment's next answers given. -/
def withAnswers (as : List Answer) (s : State) : State := { s with env := ⟨as, okAnswer⟩ }

/-- The small block with other registers. -/
def dressed (border : Color) (prof : Profile) (w h : Nat) : State :=
  { small with regs := { small.regs with border := border, profile := prof, w := w, h := h } }

/-- The small block in an UPDATE about to perform entry `k`, its planes packed by hand. -/
def flying (k : RomIndex) (wait : Bool) : State :=
  { small with inflight := true, init := true, step := k, wait := wait, pa := [0x7F, 0xFF], pb := [0x00, 0x40] }

/-- The second event of the entry is due. -/
def secondDueIn (s : State) : State := { s with beat := .second }

/-- The events a result appended to an empty trace. -/
def traceOf (r : Result) : Option (List Event) := (nextOf r).map (fun t => t.tr)

/-! ### WellFormed: a term each check refuses -/

theorem test_default_params_valid : Config.defaultParams.valid = true := by decide
theorem test_small_params_valid : smallParams.valid = true := by decide
theorem test_refuses_other_delay : Instr.wellFormed smallParams (.delay 7) = false := by decide
theorem test_refuses_soft_reset_with_refresh_timeout : Instr.wellFormed smallParams (.waitbusy 30000 .softReset) = false := by decide
theorem test_refuses_refresh_with_other_timeout : Instr.wellFormed smallParams (.waitbusy 1000 .refresh) = false := by decide
theorem test_refuses_unlisted_frame_opcode : Instr.wellFormed smallParams (.frame 0x00 []) = false := by decide
theorem test_accepts_rom_operands :
    (Instr.wellFormed smallParams (.delay 100) && Instr.wellFormed smallParams (.delay 50) &&
      Instr.wellFormed smallParams (.waitbusy 1000 .softReset) && Instr.wellFormed smallParams (.frame 0x74 [0x54])) = true := by
  decide
theorem test_refuses_area_mismatch : ResEntry.valid ⟨8, 2, 8, 3, .rot0⟩ = false := by decide
theorem test_refuses_narrow_controller : ResEntry.valid ⟨7, 2, 7, 2, .rot0⟩ = false := by decide
theorem test_refuses_wide_controller : ResEntry.valid ⟨2049, 1, 2049, 1, .rot0⟩ = false := by decide
theorem test_refuses_no_rows : ResEntry.valid ⟨0, 8, 8, 0, .rot0⟩ = false := by decide
theorem test_refuses_too_many_rows : ResEntry.valid ⟨64, 8192, 8, 65536, .rot0⟩ = false := by decide
theorem test_refuses_wide_key : ResEntry.valid ⟨65536, 1, 2048, 32, .rot0⟩ = false := by decide
theorem test_refuses_tall_key : ResEntry.valid ⟨1, 65536, 2048, 32, .rot0⟩ = false := by decide
theorem test_accepts_limits : (ResEntry.valid ⟨8, 1, 8, 1, .rot0⟩ && ResEntry.valid ⟨2048, 1, 2048, 1, .rot0⟩) = true := by decide
theorem test_refuses_four_entries : resTableValid (Config.defaultResTable.take 4) = false := by decide
theorem test_refuses_repeated_key :
    resTableValid (⟨400, 300, 300, 400, .rotM90⟩ :: Config.defaultResTable.drop 1) = false := by decide
theorem test_refuses_table_without_400_300 :
    resTableValid [⟨8, 2, 8, 2, .rot0⟩, ⟨8, 3, 8, 3, .rot0⟩, ⟨8, 4, 8, 4, .rot0⟩, ⟨8, 5, 8, 5, .rot0⟩, ⟨8, 6, 8, 6, .rot0⟩] =
      false := by decide
theorem test_refuses_table_with_bad_entry : resTableValid (⟨8, 2, 8, 3, .rot0⟩ :: Config.defaultResTable.drop 1) = false := by
  decide
theorem test_refuses_equal_opcodes : opcodesDistinct { Config.defaultOpcodes with ramB := 0x24 } = false := by decide
theorem test_refuses_equal_border_patterns : bordersDistinct { Config.defaultPayloads with borderRed := 0x33 } = false := by decide
/-- The fifth default entry is the one whose shape is not that of its rotation (R36). -/
theorem test_shape_of_fifth_entry :
    Config.defaultResTable.map ResEntry.shapeConsistent = [true, true, true, true, false] := by decide

/-! ### Decode: every frame, its words written out from R96 and the examples of R240 to R265 -/

/-- Decoding under the default opcodes. -/
def read (entry : Option RomIndex) (ws : List BusWord) : Except DecodeError Decoded := decode Config.defaultOpcodes entry ws

theorem test_decode_swreset : read none [.cmd 0b00010010] = .ok ⟨.swreset, [], []⟩ := rfl
theorem test_decode_analogBlock : read none [.cmd 0b01110100, .data [0x54]] = .ok ⟨.analogBlock, [0x54], []⟩ := rfl
theorem test_decode_digitalBlock : read none [.cmd 0b01111110, .data [0x3B]] = .ok ⟨.digitalBlock, [0x3B], []⟩ := rfl
theorem test_decode_gateSetting :
    read none [.cmd 0b00000001, .data [0x2C, 0x01, 0x00]] = .ok ⟨.gateSetting, [0x2C, 0x01, 0x00], []⟩ := rfl
theorem test_decode_gateVolt : read none [.cmd 0b00000011, .data [0x17]] = .ok ⟨.gateVolt, [0x17], []⟩ := rfl
theorem test_decode_sourceVolt :
    read (some 11) [.cmd 0b00000100, .data [0x41, 0xAC, 0x32]] = .ok ⟨.sourceVolt, [0x41, 0xAC, 0x32], []⟩ := rfl
theorem test_decode_sourceVoltY :
    read (some 18) [.cmd 0b00000100, .data [0x07, 0xAC, 0x32]] = .ok ⟨.sourceVoltY, [0x07, 0xAC, 0x32], []⟩ := rfl
theorem test_decode_sourceVoltR :
    read (some 19) [.cmd 0b00000100, .data [0x30, 0xAC, 0x22]] = .ok ⟨.sourceVoltR, [0x30, 0xAC, 0x22], []⟩ := rfl
theorem test_decode_dummyLine : read none [.cmd 0b00111010, .data [0x07]] = .ok ⟨.dummyLine, [0x07], []⟩ := rfl
theorem test_decode_gateWidth : read none [.cmd 0b00111011, .data [0x04]] = .ok ⟨.gateWidth, [0x04], []⟩ := rfl
theorem test_decode_dataEntry : read none [.cmd 0b00010001, .data [0x03]] = .ok ⟨.dataEntry, [0x03], []⟩ := rfl
theorem test_decode_vcom : read none [.cmd 0b00101100, .data [0x3C]] = .ok ⟨.vcom, [0x3C], []⟩ := rfl
theorem test_decode_borderDefault : read (some 16) [.cmd 0b00111100, .data [0x00]] = .ok ⟨.borderDefault, [0x00], []⟩ := rfl
theorem test_decode_borderMatch : read (some 17) [.cmd 0b00111100, .data [0x31]] = .ok ⟨.borderMatch, [0x31], []⟩ := rfl
theorem test_decode_lutLoad :
    read none [.cmd 0b00110010, .data (List.replicate 70 0x55)] = .ok ⟨.lutLoad, List.replicate 70 0x55, []⟩ := rfl
theorem test_decode_ramXWindow : read none [.cmd 0b01000100, .data [0x00, 0x31]] = .ok ⟨.ramXWindow, [0x00, 0x31], []⟩ := rfl
theorem test_decode_ramYWindow :
    read none [.cmd 0b01000101, .data [0x00, 0x00, 0x2B, 0x01]] = .ok ⟨.ramYWindow, [0x00, 0x00, 0x2B, 0x01], []⟩ := rfl
theorem test_decode_ramXPtr : read none [.cmd 0b01001110, .data [0x00]] = .ok ⟨.ramXPtr, [0x00], []⟩ := rfl
theorem test_decode_ramYPtr : read none [.cmd 0b01001111, .data [0x00, 0x00]] = .ok ⟨.ramYPtr, [0x00, 0x00], []⟩ := rfl
theorem test_decode_ramWriteA : read none [.cmd 0b00100100, .data [0x7F, 0xFF]] = .ok ⟨.ramWriteA, [0x7F, 0xFF], []⟩ := rfl
theorem test_decode_ramWriteB : read none [.cmd 0b00100110, .data [0x00]] = .ok ⟨.ramWriteB, [0x00], []⟩ := rfl
theorem test_decode_updateCtrl : read none [.cmd 0b00100010, .data [0xC7]] = .ok ⟨.updateCtrl, [0xC7], []⟩ := rfl
/-- ACTIVATE has no payload: the command after it begins the next frame. -/
theorem test_decode_activate : read none [.cmd 0b00100000, .cmd 0x10] = .ok ⟨.activate, [], [.cmd 0x10]⟩ := rfl
theorem test_decode_deepSleep : read none [.cmd 0b00010000, .data [0x01]] = .ok ⟨.deepSleep, [0x01], []⟩ := rfl
/-- The data byte 0x3B of DIGITAL_BLOCK is not the opcode 0x3B of GATE_WIDTH (R90). -/
theorem test_data_is_never_a_command : read none [.data [0x3B]] = .error .dataFirst := rfl
theorem test_rejects_nothing : read none [] = .error .noWord := rfl
theorem test_rejects_empty_data : read none [.cmd 0x12, .data []] = .error .emptyData := rfl
theorem test_rejects_unlisted_opcode : read none [.cmd 0x05] = .error (.unknownOpcode 0x05) := rfl
theorem test_rejects_missing_payload : read none [.cmd 0x74] = .error (.payloadLength 0x74 0) := rfl
theorem test_rejects_payload_of_bare_command : read none [.cmd 0x20, .data [0x01]] = .error (.payloadLength 0x20 1) := rfl
theorem test_table_words : (decodeTableWord 8 0x12, decodeTableWord 8 0x24, decodeTableWord 8 0x05) =
    (some .swreset, some .ramWriteA, none) := by decide
/-- Encoding writes the words of the example of R243. -/
theorem test_encode_gateSetting :
    encode Config.defaultParams (world 400 300 []).frameOperands .gateSetting =
      some [.cmd 0x01, .data [0x2C, 0x01, 0x00]] := rfl
theorem test_encode_no_host_operation : encode smallParams small.frameOperands (.update true) = none := rfl

/-! ### Frames: V-OPS, V-BRD, V-SRC and the examples of R240 to R265 -/

theorem test_swreset : (perform .swreset small).tr = [.cmd 0x12 .done] := by decide
theorem test_analogBlock : (perform .analogBlock small).tr = [.cmd 0x74 .done, .data [0x54] .done] := by decide
theorem test_digitalBlock : (perform .digitalBlock small).tr = [.cmd 0x7E .done, .data [0x3B] .done] := by decide
theorem test_gateSetting : (perform .gateSetting (world 400 300 [])).tr =
    [.cmd 0x01 .done, .data [0x2C, 0x01, 0x00] .done] := by decide
theorem test_gateSetting_256 : (perform .gateSetting (world 8 256 [])).tr =
    [.cmd 0x01 .done, .data [0x00, 0x01, 0x00] .done] := by decide
theorem test_gateVolt : (perform .gateVolt small).tr = [.cmd 0x03 .done, .data [0x17] .done] := by decide
theorem test_sourceVolt : (perform .sourceVolt small).tr = [.cmd 0x04 .done, .data [0x41, 0xAC, 0x32] .done] := by decide
theorem test_sourceVoltY : (perform .sourceVoltY (dressed .white .yellow 8 2)).tr =
    [.cmd 0x04 .done, .data [0x07, 0xAC, 0x32] .done] := by decide
theorem test_sourceVoltR : (perform .sourceVoltR (dressed .white .red 400 300)).tr =
    [.cmd 0x04 .done, .data [0x30, 0xAC, 0x22] .done] := by decide
theorem test_sourceVoltR_elsewhere : (perform .sourceVoltR (dressed .white .red 212 104)).tr = [] := by decide
theorem test_dummyLine : (perform .dummyLine small).tr = [.cmd 0x3A .done, .data [0x07] .done] := by decide
theorem test_gateWidth : (perform .gateWidth small).tr = [.cmd 0x3B .done, .data [0x04] .done] := by decide
theorem test_dataEntry : (perform .dataEntry small).tr = [.cmd 0x11 .done, .data [0x03] .done] := by decide
theorem test_vcom : (perform .vcom small).tr = [.cmd 0x2C .done, .data [0x3C] .done] := by decide
theorem test_borderDefault : (perform .borderDefault small).tr = [.cmd 0x3C .done, .data [0x00] .done] := by decide
theorem test_borderMatch :
    [dressed .white .red 8 2, dressed .black .yellow 8 2, dressed .accent .red 8 2, dressed .accent .yellow 8 2].map
      (fun s => (perform .borderMatch s).tr) =
    [[.cmd 0x3C .done, .data [0x31] .done], [.cmd 0x3C .done, .data [0x00] .done],
      [.cmd 0x3C .done, .data [0x73] .done], [.cmd 0x3C .done, .data [0x33] .done]] := by decide
theorem test_borderMatch_falls_through : (perform .borderMatch (dressed .accent .black 8 2)).tr = [] := by decide
theorem test_lutLoad : (perform .lutLoad { small with regs := { small.regs with lutsel := .redHt } }).tr =
    [.cmd 0x32 .done, .data (List.replicate 35 5 ++ List.replicate 35 6) .done] := by decide
theorem test_ramXWindow_250 : (perform .ramXWindow (world 250 122 [])).tr =
    [.cmd 0x44 .done, .data [0x00, 0x1E] .done] := by decide
theorem test_ramXWindow_2048 : (perform .ramXWindow (world 2048 1 [])).tr =
    [.cmd 0x44 .done, .data [0x00, 0xFF] .done] := by decide
theorem test_ramYWindow_480 : (perform .ramYWindow (world 800 480 [])).tr =
    [.cmd 0x45 .done, .data [0x00, 0x00, 0xDF, 0x01] .done] := by decide
theorem test_ramYWindow_256 : (perform .ramYWindow (world 8 256 [])).tr =
    [.cmd 0x45 .done, .data [0x00, 0x00, 0xFF, 0x00] .done] := by decide
theorem test_ramXPtr : (perform .ramXPtr small).tr = [.cmd 0x4E .done, .data [0x00] .done] := by decide
theorem test_ramYPtr : (perform .ramYPtr small).tr = [.cmd 0x4F .done, .data [0x00, 0x00] .done] := by decide
theorem test_ramWriteA : (perform .ramWriteA (flying 25 true)).tr = [.cmd 0x24 .done, .data [0x7F, 0xFF] .done] := by decide
theorem test_ramWriteB : (perform .ramWriteB (flying 28 true)).tr = [.cmd 0x26 .done, .data [0x00, 0x40] .done] := by decide
theorem test_updateCtrl : (perform .updateCtrl small).tr = [.cmd 0x22 .done, .data [0xC7] .done] := by decide
theorem test_activate : (perform .activate small).tr = [.cmd 0x20 .done] := by decide
theorem test_deepSleep : (perform .deepSleep (flying 33 true)).tr = [.cmd 0x10 .done, .data [0x01] .done] := by decide
theorem test_deepSleep_without_wait : (perform .deepSleep (flying 33 false)).tr = [] := by decide

/-- One event at a time: the command, with the data due, and then the data (R7, R214). -/
theorem test_frame_is_two_events :
    (traceOf (exec .vcom small), (nextOf (exec .vcom small)).map (fun t => t.beat), traceOf (exec .vcom (secondDueIn small))) =
      (some [.cmd 0x2C .done], some .second, some [.data [0x3C] .done]) := by decide

/-! ### Micro-operations: V-SEQ -/

theorem test_acquire_warn :
    (nextOf (exec .acquire (withAnswers [warnAnswer] small))).map (fun t => (t.tr, t.init, t.warn, t.results)) =
      some ([.acquire .warn], true, true, []) := by decide
theorem test_acquire_fail :
    (nextOf (exec .acquire (withAnswers [failAnswer] small))).map (fun t => (t.tr, t.init, t.state, t.err, t.results)) =
      some ([.acquire .fail], false, .error, .transport, [.transportError 0]) := by decide
theorem test_rstline : (perform (.rstline .inactive) small).tr = [.setLine .inactive .done] := by decide
theorem test_delay : (nextOf (exec (.delay 50) (withAnswers [failAnswer] small))).map (fun t => (t.tr, t.env)) =
    some ([.delay 50], ⟨[failAnswer], okAnswer⟩) := by decide
theorem test_waitbusy_edge : (perform (.waitbusy 1000 .softReset) (withAnswers [busyAnswer, busyAnswer] small)).tr =
    [.readLine (.level .busy), .waitEdge 1000 (.edge true)] := by decide
theorem test_waitbusy_timeout :
    (nextOf (exec (.waitbusy 30000 .refresh) (secondDueIn (withAnswers [noEdgeAnswer] (flying 32 true))))).map
      (fun t => (t.tr, t.state, t.err, t.errstep, t.step)) =
    some ([.waitEdge 30000 (.edge false)], .error, .timeoutRefresh, 32, 0) := by decide
theorem test_frame : (perform (.frame 0x74 [0x54]) small).tr = [.cmd 0x74 .done, .data [0x54] .done] := by decide
/-- "FRAME(74, [54]), Cmd fails: TransportError, ERRSTEP = 7, no Data". -/
theorem test_frame_fails :
    (nextOf (exec (.frame 0x74 [0x54]) (withAnswers [failAnswer] (flying 7 true)))).map (fun t => (t.tr, t.err, t.errstep)) =
      some ([.cmd 0x74 .failed], .transport, 7) := by decide

/-! ### Host operations: V-CFG, V-PIX -/

/-- V-CFG row 2: rotated panel, upgraded LUT. -/
theorem test_configure :
    (nextOf (exec (.configure 212 104 "red" 2 false false (some ⟨212, 104, 1, "red"⟩)) State.reset)).map
      (fun t => (t.regs, t.cfgv, t.fs, t.results)) =
    some (⟨212, 104, 104, 212, .rotM90, .red, .redHt, .accent, false, false⟩, true, [], [.ok]) := by decide
/-- V-CFG rows 4 to 9: the first test that fails is reported. -/
theorem test_configure_rejects :
    [Instr.configure 300 400 "black" 0 false false none, .configure 400 300 "red_ht" 0 false false none,
      .configure 400 300 "black" 0 false false (some ⟨212, 104, 0, "black"⟩), .configure 640 480 "green" 0 false false none].map
      (fun i => (nextOf (exec i State.reset)).map (fun t => (t.results, t.cfgv))) =
    [some ([.unsupportedResolution 300 400], false), some ([.unsupportedProfile "red_ht"], false),
      some ([.identityMismatch 212 104], false), some ([.unsupportedResolution 640 480], false)] := by decide
theorem test_setborder : (nextOf (exec (.setborder 1) small)).map (fun t => t.regs.border) = some .black := by decide
theorem test_setborder_reserved :
    (nextOf (exec (.setborder 3) (dressed .accent .red 8 2))).map (fun t => t.regs.border) = some .accent := by decide
/-- V-PIX: cell 2 * 400 + 1 = 801. -/
theorem test_setpixel : (nextOf (exec (.setpixel 1 2 1) (world 400 300 []))).map (fun t => t.fs) = some [(801, 1)] := by decide
/-- V-PIX: bad coordinates fault, a bad colour with bad coordinates does nothing. -/
theorem test_setpixel_out_of_range :
    [Instr.setpixel (-1) 0 1, .setpixel 400 0 1, .setpixel 0 300 0, .setpixel (-1) 0 7].map
      (fun i => (nextOf (exec i (world 400 300 [0, 2]))).map (fun t => (t.fs, t.results))) =
    [some ([(1, 2)], [.boundsFault (-1) 0]), some ([(1, 2)], [.boundsFault 400 0]), some ([(1, 2)], [.boundsFault 0 300]),
      some ([(1, 2)], [.ok])] := by decide
/-- V-PIX: cells are stored unfiltered. -/
theorem test_loadframe :
    (nextOf (exec (.loadframe [0, 1, 2, 3, 255, 0, 0, 7]) (world 4 2 [2, 2, 2, 2, 2, 2, 2, 2]))).map (fun t => t.fs) =
      some [(1, 1), (2, 2), (3, 3), (4, 255), (7, 7)] := by decide
theorem test_loadframe_wrong_length : refusalOf (exec (.loadframe [1]) (world 4 2 [])) = some (.rasterLength 1 8) := by decide
/-- An UPDATE is accepted from ERROR, clears ERR and packs (R201, R202). -/
theorem test_update :
    (nextOf (exec (.update true) { small with state := .error, err := .transport, errstep := 7 })).map
      (fun t => (t.inflight, t.wait, t.err, t.pa, t.pb)) =
    some (true, true, .none, [0x7F, 0xFF], [0x00, 0x40]) := by decide
theorem test_update_at_fresh : refusalOf (exec (.update true) State.reset) = some .notConfigured := by decide

/-! ### PACK and LUTSEL: V-ORI, V-ENC, V-LUT -/

/-- The eight orientations of the 3 by 2 store a to f, here 10 to 15 (V-ORI). -/
theorem test_orientations :
    [(false, false, Rot.rot0), (true, false, .rot0), (false, true, .rot0), (true, true, .rot0), (false, false, .rotM90),
      (true, false, .rotM90), (false, true, .rotM90), (true, true, .rotM90)].map
      (fun r => (List.range 6).map (fun k => (pixelStream { world 3 2 [10, 11, 12, 13, 14, 15] with
        regs := { (world 3 2 []).regs with vflip := r.1, hflip := r.2.1, rot := r.2.2 } } k).toNat)) =
    [[10, 11, 12, 13, 14, 15], [13, 14, 15, 10, 11, 12], [12, 11, 10, 15, 14, 13], [15, 14, 13, 12, 11, 10],
      [13, 10, 14, 11, 15, 12], [10, 13, 11, 14, 12, 15], [15, 12, 14, 11, 13, 10], [12, 15, 11, 14, 10, 13]] := by decide
/-- V-ENC, the last row of the 5 by 2 table and the fourth of the 4 by 3 table. -/
theorem test_pack :
    [world 5 2 [0, 1, 2, 3, 255, 1, 2, 0, 7, 1],
      { world 4 3 [0, 1, 2, 0, 1, 1, 0, 2, 2, 0, 0, 1] with
        regs := { (world 4 3 []).regs with hflip := true, rot := .rotM90 } }].map
      (fun s => (nextOf (exec .pack s)).map (fun t => (t.pa, t.pb))) =
    [some ([0xBB, 0x80], [0x22, 0x00]), some ([0x7E, 0x50], [0x44, 0x40])] := by decide
/-- V-LUT rows 1, 3, 4, 6, 7, 8, 10. -/
theorem test_lutsel :
    [(Profile.red, some (1, "red")), (.red, some (2, "red")), (.red, some (1, "yellow")), (.red, some (1, "Red")), (.red, none),
      (.yellow, some (1, "red")), (.black, some (1, "red"))].map
      (fun r => (nextOf (exec (.lutsel r.1 (r.2.map fun v => ⟨400, 300, v.1, v.2⟩)) small)).map (fun t => t.regs.lutsel)) =
    [some .redHt, some .red, some .red, some .red, some .red, some .yellow, some .black] := by decide

/-! ### Steps -/

/-- P3, first UPDATE: the soft-reset wait times out. -/
theorem test_step_timeout :
    (nextOf (step (secondDueIn (withAnswers [noEdgeAnswer] (flying 6 true))))).map
      (fun t => (t.tr, t.state, t.err, t.errstep, t.inflight)) =
    some ([.waitEdge 1000 (.edge false)], .error, .timeoutSoftReset, 6, false) := by decide
/-- V-SEQ: an UPDATE that does not wait returns with its last event, Delay 50. -/
theorem test_step_skips_unwaited_sleep :
    (nextOf (step (flying 31 false))).map (fun t => (t.tr, t.state, t.step, t.inflight, t.results)) =
      some ([.delay 50], .triggered, 0, false, [.ok]) := by decide
/-- A step is one event: the command of entry 9, and then its data, after which entry 10 is next (R7). -/
theorem test_step_is_one_event :
    ((nextOf (step (flying 9 true))).map (fun t => (t.tr, t.step, t.beat)),
      (nextOf (step (secondDueIn (flying 9 true)))).map (fun t => (t.tr, t.step, t.beat))) =
    (some ([.cmd 0x01 .done], 9, .second), some ([.data [0x02, 0x00, 0x00] .done], 10, .first)) := by decide
/-- Entries 18 and 19 are passed over after the border frame of a black profile. -/
theorem test_step_passes_over_overrides :
    (nextOf (step (secondDueIn (flying 17 true)))).map (fun t => (t.tr, t.step)) = some ([.data [0x31] .done], 20) := by decide
/-- With the transport acquired an UPDATE starts at entry 1. -/
theorem test_step_accepts_update :
    (nextOf (step { small with init := true, calls := [.update true] })).map (fun t => (t.tr, t.step, t.inflight)) =
      some ([], 1, true) := by decide
theorem test_step_from_fetched_word :
    (nextOf (step (State.reset.withFetchWord 8 0x10))).map (fun t => (t.tr, t.state, t.step, t.beat)) =
      some ([.cmd 0x10 .done], .sleeping, 33, .second) := by decide
theorem test_reset_idles : nextOf (step State.reset) = some State.reset := rfl

/-! ### Witnesses: concrete inputs that meet the hypotheses of the statements, one for each clause -/

theorem witness_decode_of_encode :
    opcodesDistinct smallParams.op = true ∧ (17 : RomIndex) ∈ entriesOf .borderMatch ∧
    encode smallParams small.frameOperands .borderMatch = some [.cmd 0x3C, .data [0x31]] ∧
    (18 : RomIndex) ∈ entriesOf .sourceVoltY ∧
    encode smallParams small.frameOperands .sourceVoltY = some [.cmd 0x04, .data [0x07, 0xAC, 0x32]] ∧
    (28 : RomIndex) ∈ entriesOf .ramWriteB ∧ (flying 28 true).frameOperands.pb ≠ [] ∧
    encode smallParams (flying 28 true).frameOperands .ramWriteB = some [.cmd 0x26, .data [0x00, 0x40]] := by decide
theorem witness_rest_is_no_data : (∀ bs, ([] : List BusWord).head? ≠ some (.data bs)) ∧ ∀ bs, [BusWord.cmd 0x04].head? ≠ some (.data bs) := by
  simp
theorem witness_decoded_words : ∃ d, decode Config.defaultOpcodes none [.cmd 0x10, .data [0x01], .cmd 0x12] = .ok d := ⟨_, rfl⟩
theorem witness_unlisted_opcodes :
    0x00 ∉ opcodes Config.defaultOpcodes ∧ 0xFF ∉ opcodes Config.defaultOpcodes ∧ ∀ rest, [BusWord.data [0x01]] ≠ .data [] :: rest := by
  refine ⟨by decide, by decide, by simp⟩
/-- The first two answers are granted and the third is not. -/
theorem witness_two_events_granted :
    (withAnswers [okAnswer, okAnswer, failAnswer] small).env.Grants (sentFrame 0x74 [0x54]).length ∧
      ¬(withAnswers [okAnswer, okAnswer, failAnswer] small).env.Grants 3 ∧ small.beat = .first ∧
      opcodeOf small.params.op .analogBlock = some 0x74 ∧
      payloadOf small.params.k small.frameOperands .analogBlock = some [0x54] := by decide
theorem witness_one_event_granted : (withAnswers [okAnswer, failAnswer] small).env.Grants 1 := by decide
theorem witness_geometry_limits :
    (world 8 1 []).env.Grants 1 ∧ 8 ≤ (world 8 1 []).regs.cols ∧ 1 ≤ (world 8 1 []).regs.rows ∧
      (world 2048 65535 []).regs.cols ≤ 2048 ∧ (world 2048 65535 []).regs.rows ≤ 65535 := by decide
theorem witness_selected_table :
    small.env.Grants 1 ∧ (small.regs.lutsel = .black → lutOf 1 = small.params.lut.black) ∧
      (small.regs.lutsel = .red → lutOf 1 = small.params.lut.red) ∧ (small.regs.lutsel = .redHt → lutOf 1 = small.params.lut.redHt) ∧
      (small.regs.lutsel = .yellow → lutOf 1 = small.params.lut.yellow) := by
  refine ⟨by decide, fun _ => rfl, ?_, ?_, ?_⟩ <;> intro h <;> cases h
theorem witness_planes : (flying 25 true).pa ≠ [] ∧ (flying 25 true).pb ≠ [] ∧ small.pa = [] ∧ small.pb = [] ∧
    (flying 25 true).env.Grants 1 := by decide
theorem witness_border_arms :
    (dressed .black .red 8 2).regs.border = .black ∧
    ((dressed .accent .red 8 2).regs.border = .accent ∧ (dressed .accent .red 8 2).regs.profile = .red) ∧
    ((dressed .accent .yellow 8 2).regs.border = .accent ∧ (dressed .accent .yellow 8 2).regs.profile = .yellow) ∧
    (dressed .white .black 8 2).regs.border = .white ∧
    ((dressed .accent .black 8 2).regs.border = .accent ∧ (dressed .accent .black 8 2).regs.profile = .black) := by decide
theorem witness_override_conditions :
    (dressed .white .yellow 8 2).regs.profile = .yellow ∧ (dressed .white .red 8 2).regs.profile ≠ .yellow ∧
    ((dressed .white .red 400 300).regs.profile = .red ∧
      ((dressed .white .red 400 300).regs.w, (dressed .white .red 400 300).regs.h) = smallParams.redOverrideRes) ∧
    ¬((dressed .white .red 8 2).regs.profile = .red ∧
      ((dressed .white .red 8 2).regs.w, (dressed .white .red 8 2).regs.h) = smallParams.redOverrideRes) := by decide
theorem witness_waiting : (flying 33 true).wait = true ∧ (flying 33 false).wait = false := by decide
theorem witness_frame_instances :
    opcodeOf smallParams.op .sourceVoltR = some 0x04 ∧
    payloadOf smallParams.k (dressed .white .red 400 300).frameOperands .sourceVoltR = some [0x30, 0xAC, 0x22] ∧
    opcodeOf smallParams.op .deepSleep = some 0x10 ∧ payloadOf smallParams.k small.frameOperands .deepSleep = some [0x01] := by decide
/-- A state for each clause about the event of a frame: granted or failing, the command or the data due. -/
theorem witness_event_outcomes :
    (small.env.answer 0).fails = false ∧ small.beat = .first ∧ (secondDueIn small).beat = .second ∧
    ((withAnswers [failAnswer] small).env.answer 0).fails = true ∧ (withAnswers [failAnswer] small).beat = .first ∧
    ((secondDueIn (withAnswers [failAnswer] small)).env.answer 0).fails = true ∧
    (secondDueIn (withAnswers [failAnswer] small)).beat = .second := by decide
theorem witness_acquire_clauses :
    (flying 0 true).init = true ∧ small.init = false ∧ (small.env.answer 0).fails = false ∧ (small.env.answer 0).warn = false ∧
    ((withAnswers [warnAnswer] small).env.answer 0).warn = true ∧ ((withAnswers [failAnswer] small).env.answer 0).fails = true := by
  decide
/-- A state for each clause of WAITBUSY. -/
theorem witness_waitbusy_clauses :
    ((withAnswers [okAnswer] small).env.answer 0).level = .ready ∧ ((withAnswers [busyAnswer] small).env.answer 0).level = .busy ∧
    ((withAnswers [busyAnswer] small).env.answer 0).fails = false ∧ ((withAnswers [failAnswer] small).env.answer 0).fails = true ∧
    (secondDueIn small).beat = .second ∧ ((secondDueIn (withAnswers [busyAnswer] small)).env.answer 0).edge = true ∧
    ((secondDueIn (withAnswers [noEdgeAnswer] small)).env.answer 0).edge = false := by decide
theorem witness_configure :
    small.inflight = false ∧ small.params.valid = true ∧ (⟨3, 8, 8, 3, .rotM90⟩ : ResEntry) ∈ small.params.resTable ∧
    ("red", Profile.red) ∈ [("black", Profile.black), ("red", Profile.red), ("yellow", Profile.yellow)] ∧
    ∀ r, some (IdentityRecord.mk 3 8 1 "red") = some r → r.width = 3 ∧ r.height = 8 := by
  refine ⟨rfl, by decide, by decide, by decide, ?_⟩
  rintro r ⟨⟩
  exact ⟨rfl, rfl⟩
theorem witness_configure_rejections :
    (∀ e ∈ small.params.resTable, ¬(e.w = 2 ∧ e.h = 8)) ∧ (∃ e ∈ small.params.resTable, e.w = 8 ∧ e.h = 2) ∧
    "red_ht" ∉ ["black", "red", "yellow"] ∧ "red" ∈ ["black", "red", "yellow"] ∧
    ¬((IdentityRecord.mk 8 3 1 "red").width = 8 ∧ (IdentityRecord.mk 8 3 1 "red").height = 2) := by decide
/-- At rest and configured, with a canonical store, at the first and the last cell, and outside on every side. -/
theorem witness_pixels :
    small.inflight = false ∧ small.cfgv = true ∧ small.fs.wf ∧
    ((0 : Int) ≤ 0 ∧ (7 : Int) < small.regs.w ∧ (1 : Int) < small.regs.h) ∧
    ¬((0 : Int) ≤ -1) ∧ ¬((8 : Int) < small.regs.w) ∧ ¬((2 : Int) < small.regs.h) ∧
    ¬((3 : Byte) = 0 ∨ (3 : Byte) = 1 ∨ (3 : Byte) = 2) := by
  refine ⟨rfl, rfl, ofCells_wf _ _, ?_⟩
  decide
theorem witness_raster :
    (List.replicate 16 (7 : Byte)).length = small.regs.w * small.regs.h ∧ small.fs ≠ [] ∧
    (∀ c ∈ small.fs, c.1 < small.regs.w * small.regs.h) ∧ [(7 : Byte)].length ≠ small.regs.w * small.regs.h := by decide
theorem witness_gates : (flying 3 true).inflight = true ∧ State.reset.inflight = false ∧ State.reset.cfgv = false := by decide
theorem witness_plane_bits :
    ∃ t, exec .pack small = .next t ∧ 1 < (small.regs.w * small.regs.h + 7) / 8 ∧ 8 * 1 + 1 < small.regs.w * small.regs.h ∧
      pixelStream small (8 * 1 + 1) = 2 := ⟨_, rfl, by decide⟩
/-- The last pixel of the small store, and of a turned store. -/
theorem witness_positions :
    7 < small.regs.w ∧ 1 < small.regs.h ∧ small.regs.rot = .rot0 ∧
    2 < ({ world 3 8 [] with regs := { (world 3 8 []).regs with rot := .rotM90 } }).regs.w ∧ 23 < 3 * 8 := by decide
/-- Two states that differ in the trace and the border and agree on what PACK reads. -/
theorem witness_pack_is_pure :
    (∃ t, exec .pack small = .next t) ∧ (∃ t, exec .pack { small with regs := { small.regs with border := .black }, tr := [.delay 1] } = .next t) ∧
    small ≠ { small with regs := { small.regs with border := .black }, tr := [.delay 1] } := ⟨⟨_, rfl⟩, ⟨_, rfl⟩, by decide⟩
/-- Uniform stores: all BLACK, and all ACCENT with and without pad bits. -/
theorem witness_uniform_stores :
    (∀ a, a < (world 5 2 []).regs.w * (world 5 2 []).regs.h → (world 5 2 (List.replicate 10 1)).fs.read a = 1) ∧
    (∀ a, a < (world 5 2 []).regs.w * (world 5 2 []).regs.h → (world 5 2 (List.replicate 10 2)).fs.read a = 2) ∧
    (5 * 2) % 8 ≠ 0 ∧
    (∀ a, a < (world 8 2 []).regs.w * (world 8 2 []).regs.h → (world 8 2 (List.replicate 16 2)).fs.read a = 2) ∧
    (8 * 2) % 8 = 0 := by decide
theorem witness_upgrade :
    1 ∈ small.params.htVariants ∧ 2 ∉ small.params.htVariants ∧ (IdentityRecord.mk 8 2 1 "red").accentColorName = "red" := by decide
theorem witness_rom_steps :
    (∃ t, (flying 9 true).inflight = true ∧ (romEntry (flying 9 true).params (flying 9 true).step).cond.holds (flying 9 true) = true ∧
      exec (romEntry (flying 9 true).params (flying 9 true).step).instr
        { flying 9 true with state := (romEntry (flying 9 true).params (flying 9 true).step).state } = .next t) ∧
    (romEntry (flying 18 true).params (flying 18 true).step).cond.holds (flying 18 true) = false :=
  ⟨⟨_, rfl, rfl, rfl⟩, rfl⟩
/-- From entry 17 on the next performed entry is 20; from entry 31 on none is, where the UPDATE does not wait. -/
theorem witness_advance :
    ((flying 17 true).step < 20 ∧
      (∀ j : RomIndex, (flying 17 true).step < j → j < 20 → (romEntry (flying 17 true).params j).cond.holds (flying 17 true) = false) ∧
      (romEntry (flying 17 true).params 20).cond.holds (flying 17 true) = true) ∧
    ∀ j : RomIndex, (flying 31 false).step < j → (romEntry (flying 31 false).params j).cond.holds (flying 31 false) = false := by
  decide
theorem witness_one_event_steps :
    (∃ t, step (flying 9 true) = .next t ∧ (flying 9 true).inflight = true) ∧ ∃ t, step small = .next t ∧ small.inflight = false :=
  ⟨⟨_, rfl, rfl⟩, ⟨_, rfl, rfl⟩⟩
theorem witness_decoded_frame : decodeTableWord 8 0x10 = some .deepSleep ∧ decodeTableWord 8 0x45 = some .ramYWindow := by decide
theorem witness_calls :
    small.inflight = false ∧ small.calls = [] ∧
    (∃ t, exec (HostOp.setborder 1).toInstr { small with calls := [] } = .next t ∧ t.inflight = false) ∧
    (∃ t, exec (HostOp.update true).toInstr { small with calls := [] } = .next t ∧ t.inflight = true) ∧
    ∃ r, exec (HostOp.loadframe [1]).toInstr { small with calls := [] } = .refused r :=
  ⟨rfl, rfl, ⟨_, rfl, rfl⟩, ⟨_, rfl, rfl⟩, ⟨_, rfl⟩⟩
/-- A state for each clause: each wait with its `ReadLine` due and with its `WaitEdge` due. -/
theorem witness_timeouts :
    ((withAnswers [busyAnswer] (flying 6 true)).beat = .first ∧ (withAnswers [busyAnswer] (flying 6 true)).step = 6 ∧
      ((withAnswers [busyAnswer] (flying 6 true)).env.answer 0).level = .busy) ∧
    ((withAnswers [busyAnswer] (flying 32 true)).step = 32 ∧ (withAnswers [busyAnswer] (flying 32 true)).wait = true) ∧
    ((secondDueIn (withAnswers [noEdgeAnswer] (flying 6 true))).inflight = true ∧
      (secondDueIn (withAnswers [noEdgeAnswer] (flying 6 true))).beat = .second ∧
      ((secondDueIn (withAnswers [noEdgeAnswer] (flying 6 true))).env.answer 0).edge = false) ∧
    (secondDueIn (withAnswers [noEdgeAnswer] (flying 32 true))).step = 32 := by decide
/-- The command of entry 5 fails, and the data of entry 9. -/
theorem witness_transport_failure :
    (withAnswers [failAnswer] (flying 5 true)).inflight = true ∧
    (romEntry smallParams 5).cond.holds (withAnswers [failAnswer] (flying 5 true)) = true ∧
    (∀ ms, (romEntry smallParams 5).instr ≠ .delay ms) ∧ ((withAnswers [failAnswer] (flying 5 true)).env.answer 0).fails = true ∧
    (romEntry smallParams 9).cond.holds (secondDueIn (withAnswers [failAnswer] (flying 9 true))) = true :=
  ⟨rfl, rfl, fun _ h => (by cases h), rfl, rfl⟩
theorem witness_failed_event :
    ∃ t, step (secondDueIn (withAnswers [failAnswer] (flying 25 true))) = .next t ∧
      Event.data [0x7F, 0xFF] .failed ∈ newEvents (secondDueIn (withAnswers [failAnswer] (flying 25 true))) t ∧
      (Event.data [0x7F, 0xFF] .failed).failed = true := ⟨_, rfl, by decide, rfl⟩
theorem witness_register_writes :
    (∃ t, step { small with calls := [.setborder 1] } = .next t ∧ t.regs ≠ small.regs) ∧
    (∃ t, step { small with calls := [.configure 3 8 "red" 1 true true none] } = .next t ∧ t.regs ≠ small.regs) :=
  ⟨⟨_, rfl, by decide⟩, ⟨_, rfl, by decide⟩⟩
theorem witness_store_writes :
    (∃ t, step { small with calls := [.setpixel 7 1 1] } = .next t ∧ t.fs ≠ small.fs) ∧
    (∃ t, step { small with calls := [.loadframe (List.replicate 16 1)] } = .next t ∧ t.fs ≠ small.fs) ∧
    (∃ t, step { small with calls := [.configure 8 2 "black" 0 false false none] } = .next t ∧ t.fs ≠ small.fs) :=
  ⟨⟨_, rfl, by decide⟩, ⟨_, rfl, by decide⟩, ⟨_, rfl, by decide⟩⟩
theorem witness_plane_writes :
    ∃ t, step { small with calls := [.update true] } = .next t ∧ ¬(t.pa = small.pa ∧ t.pb = small.pb) := ⟨_, rfl, by decide⟩
theorem witness_step_index :
    (∃ t, step (flying 9 true) = .next t ∧ t.step = 9) ∧ (∃ t, step (secondDueIn (flying 9 true)) = .next t ∧ t.step = 10) ∧
    (∃ t, step (secondDueIn (flying 33 true)) = .next t ∧ t.inflight = false) :=
  ⟨⟨_, rfl, rfl⟩, ⟨_, rfl, rfl⟩, ⟨_, rfl, rfl⟩⟩
theorem witness_sleep_and_trigger :
    opcodesDistinct smallParams.op = true ∧
    (∃ t, step (flying 33 true) = .next t ∧ Event.cmd 0x10 .done ∈ newEvents (flying 33 true) t) ∧
    (∃ t, step (flying 30 true) = .next t ∧ Event.cmd smallParams.op.activate .done ∈ newEvents (flying 30 true) t) :=
  ⟨by decide, ⟨_, rfl, by decide⟩, ⟨_, rfl, by decide⟩⟩
/-- An UPDATE that will wait, for an environment that grants its 53 answers and no more. -/
theorem witness_completed_update :
    ({ small with calls := [.update true], env := ⟨List.replicate 53 okAnswer, failAnswer⟩ }).inflight = false ∧
    0 < small.regs.w * small.regs.h ∧
    Env.GrantsReady ⟨List.replicate 53 okAnswer, failAnswer⟩ 53 := by decide
/-- A state in flight that has the invariant: entry 9, the data of its frame due. -/
theorem witness_invariant : Inv { secondDueIn (flying 9 true) with state := .configuring } where
  params := by decide
  canonical := ofCells_wf _ _
  bounded := by decide
  geometry := fun _ => ⟨⟨8, 2, 8, 2, .rot0⟩, by decide, rfl, rfl, rfl, rfl, rfl⟩
  unconfigured := fun h => by cases h
  rest := fun h => by cases h
  flight := fun _ =>
    { configured := rfl, err := rfl, errstep := rfl, planeA := rfl, planeB := rfl, acquired := fun _ => rfl, performed := rfl,
      state := fun h => (by cases h), second := fun _ => ⟨rfl, rfl⟩ }

end Sys2Proof.Tests
end

namespace Sys2Proof.Machine

/-! ## Steps of an UPDATE that meets no failure (00_scope.md R7; 44_sequencer.md R201, R203)

A granted entry takes one step for each of its events; the loop over the entries left is then an induction over the list. -/

/-! ### One event a step (R7, R201) -/

/-- A step at an entry whose condition is false passes it over (R201). -/
theorem settled_of_not_holds {s : State} (h : s.fetch.cond.holds s = false) : s.settled = s.advance := by
  have hk : s.step.val < (romReg s.params).length := s.step.isLt
  have hd : (romReg s.params).drop s.step.val = s.fetch :: (romReg s.params).drop (s.step.val + 1) :=
    List.drop_eq_getElem_cons hk
  unfold State.settled
  rw [hd, skipTo, if_neg (by simp [h]), State.advance]

/-- A step in flight at a performed entry is the entry's meaning, with `STATE` written, and then `goOn` (R201). -/
theorem step_of_exec {s t : State} (hi : s.inflight = true) (hc : s.fetch.cond.holds s = true)
    (hx : exec s.fetch.instr { s with state := s.fetch.state } = .next t) : step s = .next t.goOn := by
  rw [step, if_pos hi, runEntry, if_pos hc, hx, thenState]

/-- After the last event of an entry that did not raise, `STEP` advances (R201). -/
theorem goOn_of_first {t : State} (hi : t.inflight = true) (hb : t.beat = .first) : t.goOn = t.advance := by
  simp [State.goOn, hi, hb]

/-- While a second event is due, `STEP` stays (R7). -/
theorem goOn_of_second {t : State} (hb : t.beat = .second) : t.goOn = t := by
  simp [State.goOn, hb]

/-- A host operation appends no event (R7). -/
theorem exec_hostOp_tr {op : HostOp} {s t : State} (h : exec op.toInstr s = .next t) : t.tr = s.tr := by
  cases op with
  | configure w h' name c fh fv id =>
    obtain ⟨-, ⟨r, -, rfl⟩ | ⟨e, prof, -, -, -, rfl⟩⟩ := exec_configure_cases h <;> rfl
  | setborder c =>
    obtain ⟨-, -, rfl⟩ := exec_setborder_cases h
    rfl
  | setpixel x y c =>
    obtain ⟨-, -, ⟨r, rfl⟩ | ⟨-, -, rfl⟩⟩ := exec_setpixel_cases h <;> rfl
  | loadframe raster =>
    obtain ⟨-, -, -, rfl⟩ := exec_loadframe_cases h
    rfl
  | update wait =>
    obtain ⟨-, -, rfl⟩ := exec_update_cases h
    rfl

/-! ### The events of a granted entry (R203, R210 to R214) -/

/-- Whether an event used one of the environment's answers: every event but a delay (R12, R212). -/
def Event.usesAnswer : Event → Bool
  | .delay _ => false
  | .acquire _ | .setLine _ _ | .cmd _ _ | .data _ _ | .readLine _ | .waitEdge _ _ => true

/-- How many of the environment's answers a list of events used. -/
def answersUsed (evs : List Event) : Nat := evs.countP Event.usesAnswer

/-- The state after events on which nothing failed: as `State.afterEvents`, for lists with delays too. -/
def State.emitted (evs : List Event) (s : State) : State :=
  { s with tr := s.tr ++ evs, env := s.env.drop (answersUsed evs), beat := .first }

/-- The condition under which the register ROM performs an instruction (R203). -/
def condOf : Instr → Condition
  | .acquire => .initClear
  | .borderMatch => .borderMatches
  | .sourceVoltY => .profileYellow
  | .sourceVoltR => .redAtOverride
  | .deepSleep | .waitbusy _ .refresh => .waitSet
  | _ => .always

/-- The events of an instruction of the register ROM other than ACQUIRE when none fails and the busy line is READY. -/
def entryEvents (s : State) : Instr → List Event
  | .rstline lvl => [.setLine lvl .done]
  | .delay ms => [.delay ms]
  | .waitbusy _ _ => [.readLine (.level .ready)]
  | i =>
    match opcodeOf s.params.op i, payloadOf s.params.k s.frameOperands i with
    | some b, some bs => sentFrame b bs
    | _, _ => []

/-- The events of the entries that are performed, when none fails and the busy line is READY (R203). -/
def romEvents (s : State) (es : List RomEntry) : List Event :=
  es.flatMap fun e => if e.cond.holds s then entryEvents s e.instr else []

/-- `STATE` after the entries that are performed, from the value `st` on (R203). -/
def stateAfter (s : State) (es : List RomEntry) (st : SeqState) : SeqState :=
  es.foldl (fun st e => if e.cond.holds s then e.state else st) st

@[simp] theorem answersUsed_nil : answersUsed [] = 0 := rfl

@[simp] theorem answersUsed_cons (e : Event) (l : List Event) :
    answersUsed (e :: l) = answersUsed l + if e.usesAnswer then 1 else 0 :=
  List.countP_cons

theorem answersUsed_append (l m : List Event) : answersUsed (l ++ m) = answersUsed l + answersUsed m :=
  List.countP_append

theorem answersUsed_sentFrame (b : Byte) (bs : List Byte) : answersUsed (sentFrame b bs) = (sentFrame b bs).length := by
  cases bs <;> simp [sentFrame, Event.usesAnswer]

theorem answersUsed_sentFrame_le (b : Byte) (bs : List Byte) : answersUsed (sentFrame b bs) ≤ 2 := by
  cases bs <;> simp [sentFrame, Event.usesAnswer]

/-- The events of a frame are those of its command and its payload (R214). -/
theorem entryEvents_frame {s : State} {i : Instr} {b : Byte} {bs : List Byte} (hb : opcodeOf s.params.op i = some b)
    (hp : payloadOf s.params.k s.frameOperands i = some bs) : entryEvents s i = sentFrame b bs := by
  unfold entryEvents
  split
  · cases hb
  · cases hb
  · cases hb
  · rw [hb, hp]

theorem emitted_nil {s : State} (hb : s.beat = .first) : s.emitted [] = s := by
  simp [State.emitted, ← hb]

theorem emitted_emitted (s : State) (l m : List Event) : (s.emitted l).emitted m = s.emitted (l ++ m) := by
  simp [State.emitted, answersUsed_append]

theorem grantsReady_mono {e : Env} {m n : Nat} (h : e.GrantsReady n) (hm : m ≤ n) : e.GrantsReady m :=
  fun k hk => h k (by omega)

theorem grantsReady_drop {e : Env} {m n : Nat} (h : e.GrantsReady (m + n)) : (e.drop m).GrantsReady n :=
  fun k hk => by rw [answer_drop]; exact h (m + k) (by omega)

theorem runSteps_succ {s t : State} (n : Nat) (h : step s = .next t) : runSteps (n + 1) s = runSteps n t := by
  rw [runSteps, h]

theorem runSteps_one {s t : State} (h : step s = .next t) : runSteps 1 s = .next t :=
  runSteps_succ 0 h

theorem runSteps_add {m n : Nat} {s t : State} (h : runSteps m s = .next t) : runSteps (m + n) s = runSteps n t := by
  induction m generalizing s with
  | zero =>
    cases h
    rw [Nat.zero_add]
  | succ m ih =>
    cases hs : step s with
    | next u =>
      rw [runSteps_succ m hs] at h
      rw [Nat.succ_add, runSteps_succ _ hs, ih h]
    | fault f => simp [runSteps, hs] at h
    | refused r => simp [runSteps, hs] at h

/-! ### The register ROM, entry by entry -/

theorem romEntry_index (p : Params) (k : RomIndex) : (romEntry p k).index = k := by
  fin_cases k <;> rfl

theorem romEntry_cond (p : Params) (k : RomIndex) : (romEntry p k).cond = condOf (romEntry p k).instr := by
  fin_cases k <;> rfl

/-- A frame whose condition holds is FRAME with its opcode and its payload (R214). -/
theorem exec_eq_sendFrame {i : Instr} {s : State} {b : Byte} {bs : List Byte} (hb : opcodeOf s.params.op i = some b)
    (hp : payloadOf s.params.k s.frameOperands i = some bs) (hc : (condOf i).holds s = true) :
    exec i s = .next (sendFrame b bs s) := by
  cases i
  case borderMatch =>
    cases hb
    obtain ⟨c, hm, rfl⟩ := Option.map_eq_some_iff.mp hp
    exact exec_borderMatch_arm hm
  case sourceVoltY =>
    cases hb
    cases hp
    exact congrArg _ (if_pos (of_decide_eq_true hc))
  case sourceVoltR =>
    cases hb
    cases hp
    exact congrArg _ (if_pos hc)
  case deepSleep =>
    cases hb
    cases hp
    exact congrArg _ (if_pos hc)
  all_goals cases hb
  all_goals
    cases hp
    rfl

/-- Every entry of the register ROM after ACQUIRE is a reset line, a delay, a wait or a frame that has a payload (R203). -/
theorem romEntry_kinds {p : Params} {k : RomIndex} {s : State} (hk : 1 ≤ k.val) (hc : (romEntry p k).cond.holds s = true) :
    (∃ lvl, (romEntry p k).instr = .rstline lvl) ∨ (∃ ms, (romEntry p k).instr = .delay ms) ∨
    (∃ w c, (romEntry p k).instr = .waitbusy w c) ∨
    (∃ b bs, opcodeOf s.params.op (romEntry p k).instr = some b ∧
      payloadOf s.params.k s.frameOperands (romEntry p k).instr = some bs) := by
  match k, hk, hc with
  | 0, hk, _ => exact absurd hk (by decide)
  | 1, _, _ | 3, _, _ => exact .inl ⟨_, rfl⟩
  | 2, _, _ | 4, _, _ | 31, _, _ => exact .inr (.inl ⟨_, rfl⟩)
  | 6, _, _ | 32, _, _ => exact .inr (.inr (.inl ⟨_, _, rfl⟩))
  | 17, _, hc =>
    obtain ⟨b, hb⟩ := Option.isSome_iff_exists.mp (show (matchedBorder s).isSome = true from hc)
    exact .inr (.inr (.inr ⟨_, _, rfl, Option.map_eq_some_iff.mpr ⟨b, hb, rfl⟩⟩))
  | 5, _, _ | 7, _, _ | 8, _, _ | 9, _, _ | 10, _, _ | 11, _, _ | 12, _, _ | 13, _, _ | 14, _, _
  | 15, _, _ | 16, _, _ | 18, _, _ | 19, _, _ | 20, _, _ | 21, _, _ | 22, _, _ | 23, _, _ | 24, _, _
  | 25, _, _ | 26, _, _ | 27, _, _ | 28, _, _ | 29, _, _ | 30, _, _ | 33, _, _ =>
    exact .inr (.inr (.inr ⟨_, _, rfl, rfl⟩))
  | ⟨n + 34, h⟩, _, _ => exact absurd h (by omega)

/-! ### The steps of one granted entry (R7, R201) -/

/-- The state in which the due event of the entry at `STEP` is performed: `STATE` is written (R201). -/
def State.entered (s : State) : State := { s with state := s.fetch.state }

theorem holds_entered (s : State) (c : Condition) : c.holds s.entered = c.holds s :=
  holds_congr (s := s) (t := s.entered) rfl rfl rfl rfl c

/-- What the fetched entry of a state in flight needs to be performed. -/
structure Performs (i : Instr) (s : State) : Prop where
  inflight : s.inflight = true
  holds : s.fetch.cond.holds s = true
  instr : s.fetch.instr = i

/-- `STATE` written, then an event that does not fail and is the last of its entry: `STEP` advances. -/
theorem step_of_last {i : Instr} {s : State} {evs : List Event} (hs : Performs i s)
    (hx : exec i s.entered = .next (s.entered.emitted evs)) :
    step s = .next (s.entered.emitted evs).advance := by
  rw [step_of_exec hs.inflight hs.holds (hs.instr.symm ▸ hx)]
  exact congrArg _ (goOn_of_first hs.inflight rfl)

/-- A granted RSTLINE, whichever event the model's field says is due (R211). -/
theorem step_rstline {lvl : LineLevel} {s : State} (hs : Performs (.rstline lvl) s) (hg : (s.env.answer 0).fails = false) :
    step s = .next (s.entered.emitted [.setLine lvl .done]).advance := by
  rw [← peek_eq_answer] at hg
  refine step_of_last hs ?_
  simp [exec, execRstline, State.entered, hg, State.emitSetLine, State.emit, Answer.send, State.emitted, Event.usesAnswer,
    next_eq_drop]

/-- DELAY (R212). -/
theorem step_delay {ms : Nat} {s : State} (hs : Performs (.delay ms) s) :
    step s = .next (s.entered.emitted [.delay ms]).advance :=
  step_of_last hs rfl

/-- A granted WAITBUSY that finds the line READY (R213). -/
theorem step_waitbusy {w : Nat} {c : TimeoutCause} {s : State} (hs : Performs (.waitbusy w c) s) (hb : s.beat = .first)
    (hg : (s.env.answer 0).fails = false) (hr : (s.env.answer 0).level = .ready) :
    step s = .next (s.entered.emitted [.readLine (.level .ready)]).advance := by
  rw [← peek_eq_answer] at hg hr
  refine step_of_last hs ?_
  simp [exec, execWaitbusy, State.entered, hb, checkBusy, hg, hr, State.emitReadLine, State.emit, Answer.read, State.emitted,
    Event.usesAnswer, next_eq_drop]

/-- A granted frame takes one step for each of its events (R214, R7). -/
theorem runSteps_frame {i : Instr} {s : State} {b : Byte} {bs : List Byte} (hs : Performs i s) (hb : s.beat = .first)
    (hop : opcodeOf s.params.op i = some b) (hpl : payloadOf s.params.k s.frameOperands i = some bs)
    (hg : s.env.Grants (sentFrame b bs).length) :
    runSteps (sentFrame b bs).length s = .next (s.entered.emitted (sentFrame b bs)).advance := by
  have hcond : (condOf i).holds s = true := by
    rw [← hs.instr, State.fetch, ← romEntry_cond]
    exact hs.holds
  have hx (t : State) (hp : t.params = s.params) (ho : t.frameOperands = s.frameOperands)
      (hc : (condOf i).holds t = (condOf i).holds s) : exec i t = .next (sendFrame b bs t) :=
    exec_eq_sendFrame (hp ▸ hop) (hp ▸ ho ▸ hpl) (hc.trans hcond)
  have hx0 := hx s.entered rfl rfl (holds_entered s _)
  cases bs with
  | nil =>
    rw [sendFrame_bare (s := s.entered) (hg 0 (by simp [sentFrame]))] at hx0
    exact runSteps_one (step_of_last hs hx0)
  | cons x xs =>
    have hne : x :: xs ≠ [] := by simp
    rw [sendFrame_command (s := s.entered) hne hb (hg 0 (by simp [sentFrame]))] at hx0
    let u := (s.entered.emitted [.cmd b .done]).secondDue
    have h1 : step s = .next u := by
      rw [step_of_exec hs.inflight hs.holds (hs.instr.symm ▸ hx0)]
      exact congrArg _ (goOn_of_second rfl)
    have hcong (c : Condition) : c.holds u = c.holds s := holds_congr (s := s) (t := u) rfl rfl rfl rfl c
    have hu : Performs i u := ⟨hs.inflight, (hcong s.fetch.cond).trans hs.holds, hs.instr⟩
    have hx1 : exec i u = .next (u.emitted [.data (x :: xs) .done]) := by
      rw [hx u rfl rfl (hcong _), sendFrame_data hne rfl]
      · rfl
      · exact (congrArg _ (answer_drop s.env 1 0)).trans (hg 1 (by simp [sentFrame]))
    have h2 : step u = .next (u.emitted [.data (x :: xs) .done]).advance := step_of_last hu hx1
    have hj : u.emitted [.data (x :: xs) .done] =
        s.entered.emitted (sentFrame b (x :: xs)) :=
      emitted_emitted s.entered [.cmd b .done] [.data (x :: xs) .done]
    rw [hj] at h2
    rw [← runSteps_one h2]
    exact runSteps_succ 1 h1

/-- An entry after ACQUIRE, granted, takes one step for each of its events, and `STEP` advances (R201, R7). -/
theorem runSteps_entry {s : State} {i : Instr} (hs : Performs i s) (hb : s.beat = .first) (hk : 1 ≤ s.step.val)
    (hg : s.env.GrantsReady (answersUsed (entryEvents s i))) :
    runSteps (entryEvents s i).length s = .next (s.entered.emitted (entryEvents s i)).advance := by
  obtain ⟨-, hc, rfl⟩ := id hs
  obtain ⟨lvl, h⟩ | ⟨ms, h⟩ | ⟨w, c, h⟩ | ⟨b, bs, hop, hpl⟩ := romEntry_kinds hk hc
  · rw [show s.fetch.instr = _ from h] at hs hg ⊢
    exact runSteps_one (step_rstline hs (hg 0 Nat.one_pos).1)
  · rw [show s.fetch.instr = _ from h] at hs ⊢
    exact runSteps_one (step_delay hs)
  · rw [show s.fetch.instr = _ from h] at hs hg ⊢
    exact runSteps_one (step_waitbusy hs hb (hg 0 Nat.one_pos).1 (hg 0 Nat.one_pos).2)
  · rw [entryEvents_frame (i := s.fetch.instr) hop hpl] at hg ⊢
    exact runSteps_frame hs hb hop hpl fun n hn => (hg n (by rwa [answersUsed_sentFrame])).1

/-! ### The rest of the register ROM (R201, R203) -/

/-- The head of the entries left is the entry at `STEP`. -/
theorem romEntry_of_drop {p : Params} {k : Nat} {e : RomEntry} {es : List RomEntry} (h : (romReg p).drop k = e :: es) :
    ∃ hk : k < 34, romEntry p ⟨k, hk⟩ = e ∧ (romReg p).drop (k + 1) = es := by
  have hk : k < (romReg p).length := by
    by_contra hge
    rw [List.drop_eq_nil_of_le (by omega)] at h
    cases h
  rw [List.drop_eq_getElem_cons hk] at h
  obtain ⟨he, hes⟩ := List.cons.inj h
  exact ⟨hk, he, hes⟩

/-- The state after an entry that is performed and granted, before the loop moves on (R201). -/
def State.passed (e : RomEntry) (s : State) : State :=
  { s with state := e.state, step := e.index }.emitted (entryEvents s e.instr)

/-- The state after the last entries of the register ROM, all granted, and the return of the UPDATE (R201, R203). -/
def State.afterEntries (es : List RomEntry) (s : State) : State :=
  { s.emitted (romEvents s es) with state := stateAfter s es s.state }.finish

theorem holds_passed (e : RomEntry) (s : State) (c : Condition) : c.holds (s.passed e) = c.holds s :=
  holds_congr (s := s) (t := s.passed e) rfl rfl rfl rfl c

theorem romEvents_passed (e : RomEntry) (s : State) (es : List RomEntry) : romEvents (s.passed e) es = romEvents s es := by
  simp only [romEvents, holds_passed]
  rfl

theorem romEvents_cons_performed {e : RomEntry} {s : State} (hc : e.cond.holds s = true) (es : List RomEntry) :
    romEvents s (e :: es) = entryEvents s e.instr ++ romEvents s es := by
  simp [romEvents, hc]

theorem romEvents_cons_skipped {e : RomEntry} {s : State} (hc : ¬e.cond.holds s = true) (es : List RomEntry) :
    romEvents s (e :: es) = romEvents s es := by
  simp [romEvents, hc]

theorem afterEntries_nil {s : State} (hb : s.beat = .first) : s.afterEntries [] = s.finish :=
  congrArg State.finish (emitted_nil hb)

theorem afterEntries_cons_performed {e : RomEntry} {s : State} (hc : e.cond.holds s = true) (es : List RomEntry) :
    s.afterEntries (e :: es) = (s.passed e).afterEntries es := by
  have hst : stateAfter (s.passed e) es e.state = stateAfter s (e :: es) s.state := by
    simp only [stateAfter, holds_passed, List.foldl_cons, if_pos hc]
  rw [State.afterEntries, State.afterEntries, romEvents_passed, romEvents_cons_performed hc, ← hst]
  simp [State.passed, State.emitted, State.finish, answersUsed_append]

theorem afterEntries_cons_skipped {e : RomEntry} {s : State} (hc : ¬e.cond.holds s = true) (es : List RomEntry) :
    s.afterEntries (e :: es) = s.afterEntries es := by
  simp only [State.afterEntries, romEvents_cons_skipped hc, stateAfter, List.foldl_cons, if_neg hc]

/-- The loop at an entry that is performed and granted: one step for each of its events (R201, R7). -/
theorem runSteps_passed {e : RomEntry} {es : List RomEntry} {k : Nat} {s : State}
    (hes : (romReg s.params).drop k = e :: es) (hk : 1 ≤ k) (hi : s.inflight = true) (hb : s.beat = .first)
    (hc : e.cond.holds s = true) (hg : s.env.GrantsReady (answersUsed (entryEvents s e.instr))) :
    runSteps (entryEvents s e.instr).length (skipTo (e :: es) s) = .next (skipTo es (s.passed e)) := by
  obtain ⟨hlt, rfl, rfl⟩ := romEntry_of_drop hes
  rw [skipTo, if_pos hc, State.passed, romEntry_index]
  have hs : Performs (romEntry s.params ⟨k, hlt⟩).instr { s with step := ⟨k, hlt⟩ } :=
    ⟨hi, (holds_congr (s := s) (t := { s with step := ⟨k, hlt⟩ }) rfl rfl rfl rfl _).trans hc, rfl⟩
  exact runSteps_entry hs hb hk hg

/-- The loop from an entry on, granted: one step for each event of the entries that are performed, and then the UPDATE returns OK
(R201, R203, R7). -/
theorem runSteps_skipTo (es : List RomEntry) {k : Nat} {s : State} (hes : (romReg s.params).drop k = es) (hk : 1 ≤ k)
    (hi : s.inflight = true) (hb : s.beat = .first) (hg : s.env.GrantsReady (answersUsed (romEvents s es))) :
    runSteps (romEvents s es).length (skipTo es s) = .next (s.afterEntries es) := by
  induction es generalizing k s with
  | nil => rw [afterEntries_nil hb]; rfl
  | cons e es ih =>
    obtain ⟨-, -, htail⟩ := romEntry_of_drop hes
    by_cases hc : e.cond.holds s = true
    · rw [romEvents_cons_performed hc, answersUsed_append] at hg
      have hrest := ih (s := s.passed e) htail (by omega) hi rfl (romEvents_passed e s es ▸ grantsReady_drop hg)
      have hentry := runSteps_passed hes hk hi hb hc (grantsReady_mono hg (Nat.le_add_right _ _))
      rw [romEvents_passed] at hrest
      rw [romEvents_cons_performed hc, List.length_append, runSteps_add hentry, hrest, afterEntries_cons_performed hc]
    · rw [romEvents_cons_skipped hc] at hg ⊢
      rw [afterEntries_cons_skipped hc, skipTo, if_neg hc]
      exact ih htail (by omega) hi hb hg

/-! ### Acceptance, ACQUIRE and the first RSTLINE (R201, R210, R211) -/

/-- The state after an UPDATE is accepted from the caller's list, before the loop moves to its first entry (R201, R73). -/
def State.issued (wait : Bool) (rest : List HostOp) (s : State) : State := (State.accept wait { s with calls := rest }).packed

/-- The event of ACQUIRE, if the transport is not yet acquired (R210). -/
def acquireEvents (s : State) : List Event := if s.init then [] else [.acquire s.env.peek.acquire]

/-- The state after the granted entries 0 and 1: the transport is acquired and the line is inactive (R210, R211). -/
def State.opened (s : State) : State :=
  { s with
    state := .resetting, step := 1, beat := .first, init := true, warn := s.warn || (!s.init && s.env.peek.warn),
    tr := s.tr ++ (acquireEvents s ++ [.setLine .inactive .done]), env := s.env.drop ((acquireEvents s).length + 1) }

/-- A step at rest that accepts an UPDATE (R201). -/
theorem step_update {s : State} {wait : Bool} {rest : List HostOp} (hi : s.inflight = false) (hc : s.cfgv = true)
    (hcalls : s.calls = .update wait :: rest) : step s = .next (s.issued wait rest).settled := by
  have hx : exec (HostOp.update wait).toInstr { s with calls := rest } = .next (s.issued wait rest) :=
    whenConfigured_go _ hi hc
  rw [step, if_neg (by simp [hi]), runCall, hcalls]
  simp only [hx, thenState]
  rfl

/-- A granted ACQUIRE at entry 0 opens the transport, whichever event the model's field says is due (R210). -/
theorem step_acquire {s : State} (hi : s.inflight = true) (hk : s.step = 0) (ha : s.init = false)
    (hg : (s.env.answer 0).fails = false) :
    step s = .next ({ s with state := .resetting }.emitAcquire.acquired s.env.peek.warn).advance := by
  have hf : s.fetch = ⟨0, .resetting, .acquire, .initClear⟩ := by rw [State.fetch, hk]; rfl
  rw [← peek_eq_answer] at hg
  rw [step_of_exec hi (t := { s with state := .resetting }.emitAcquire.acquired s.env.peek.warn)
    (by simp [hf, Condition.holds, ha]) (by simp [hf, exec, execAcquire, ha, hg])]
  exact congrArg _ (goOn_of_first hi rfl)

/-- The loop from entry 1 on, the line granted, whichever event the model's field says is due (R211). -/
theorem step_firstRstline {s : State} (hi : s.inflight = true) (hg : (s.env.answer 0).fails = false) :
    step (skipTo ((romReg s.params).drop 1) s) = .next (skipTo ((romReg s.params).drop 2)
      ({ s with step := 1, state := .resetting }.emitted [.setLine .inactive .done])) :=
  step_rstline (s := { s with step := 1 }) ⟨hi, rfl, rfl⟩ hg

/-- Entries 0 and 1, granted: one step for each of their events (R201, R210, R211). -/
theorem runSteps_opened {s : State} (hi : s.inflight = true) (hk : s.step = 0) (hg : s.env.Grants 2) :
    runSteps ((acquireEvents s).length + 1) s.settled = .next (skipTo ((romReg s.params).drop 2) s.opened) := by
  have hrom : s.settled = skipTo (⟨0, .resetting, .acquire, .initClear⟩ :: (romReg s.params).drop 1) s := by
    rw [State.settled, hk]; rfl
  cases ha : s.init with
  | true =>
    have hskip : s.settled = skipTo ((romReg s.params).drop 1) s := by
      rw [hrom, skipTo, if_neg (by simp [Condition.holds, ha])]
    have hop : { s with step := 1, state := .resetting }.emitted [.setLine .inactive .done] = s.opened := by
      simp [State.opened, State.emitted, acquireEvents, ha, Event.usesAnswer]
    rw [hskip, ← hop, acquireEvents, if_pos ha]
    exact runSteps_one (step_firstRstline hi (hg 0 (by decide)))
  | false =>
    have hskip : s.settled = s := by
      rw [hrom, skipTo, if_pos (by simp [Condition.holds, ha]), ← hk]
    let u := { s with state := .resetting }.emitAcquire.acquired s.env.peek.warn
    have h1 : step s = .next (skipTo ((romReg u.params).drop 1) u) := by
      rw [step_acquire hi hk ha (hg 0 (by decide)), State.advance]
      simp [u, State.emitAcquire, hk]
    have hu : (u.env.answer 0).fails = false := by
      rw [← peek_eq_answer]
      exact (congrArg _ (peek_next s.env)).trans (hg 1 (by decide))
    have hop : { u with step := 1, state := .resetting }.emitted [.setLine .inactive .done] = s.opened := by
      simp [u, State.opened, State.emitted, acquireEvents, ha, Event.usesAnswer, State.emitAcquire, next_eq_drop]
    rw [hskip, acquireEvents, if_neg (by simp [ha]), List.length_singleton, runSteps_succ 1 h1, ← hop]
    exact runSteps_one (step_firstRstline hi hu)

/-! ### The events of the whole sequence (R203) -/

theorem romEvents_append (s : State) (l m : List RomEntry) : romEvents s (l ++ m) = romEvents s l ++ romEvents s m :=
  List.flatMap_append

theorem borderMatch_events (s : State) :
    (if Condition.borderMatches.holds s then entryEvents s .borderMatch else []) =
      match borderPattern s.params.k s.regs.border s.regs.profile with
      | some b => sentFrame s.params.op.border [b]
      | none => [] := by
  cases hb : borderPattern s.params.k s.regs.border s.regs.profile with
  | none => rw [if_neg (by simp [Condition.holds, matchedBorder, hb])]
  | some b =>
    rw [if_pos (by simp [Condition.holds, matchedBorder, hb])]
    exact entryEvents_frame rfl (congrArg (Option.map fun b => [b]) hb)

theorem sourceVoltY_events (s : State) :
    (if Condition.profileYellow.holds s then entryEvents s .sourceVoltY else []) =
      if s.regs.profile = .yellow then sentFrame s.params.op.srcVolt s.params.k.srcVoltYellow.toList else [] := by
  simp only [Condition.holds, beq_iff_eq]
  rfl

theorem sourceVoltR_events (s : State) :
    (if Condition.redAtOverride.holds s then entryEvents s .sourceVoltR else []) =
      if s.regs.profile = .red ∧ (s.regs.w, s.regs.h) = s.params.redOverrideRes then
        sentFrame s.params.op.srcVolt s.params.k.srcVoltRed.toList else [] := by
  simp only [Condition.holds, redAtOverrideRes, Bool.and_eq_true, beq_iff_eq]
  rfl

theorem romEvents_configure (s : State) : romEvents s romConfigure = configureEvents s := by
  simp only [romEvents, romConfigure, List.flatMap_cons, List.flatMap_nil, List.append_nil, configureEvents, List.append_assoc,
    borderMatch_events, sourceVoltY_events, sourceVoltR_events]
  rfl

theorem romEvents_planes {s : State} (ha : s.pa = planeA s) (hb : s.pb = planeB s) :
    romEvents s romPlanes = planeEvents s := by
  simp only [romEvents, romPlanes, List.flatMap_cons, List.flatMap_nil, List.append_nil, planeEvents, List.append_assoc,
    ← ha, ← hb]
  rfl

theorem romEvents_trigger (s : State) : romEvents s (romTrigger s.params) = triggerEvents s.wait s := by
  cases hw : s.wait <;> simp [romEvents, romTrigger, triggerEvents, Condition.holds, hw] <;> rfl

/-- The entries after the first RSTLINE send the rest of the sequence (R203). -/
theorem updateEvents_issued (wait : Bool) (rest : List HostOp) (s : State) :
    updateEvents wait s = acquireEvents s ++ [.setLine .inactive .done] ++
      romEvents (s.issued wait rest).opened ((romReg s.params).drop 2) := by
  set u := (s.issued wait rest).opened
  have hrom : (romReg s.params).drop 2 = romReset.drop 2 ++ (romConfigure ++ (romPlanes ++ romTrigger u.params)) := rfl
  have hreset : resetEvents s = acquireEvents s ++ [.setLine .inactive .done] ++ romEvents u (romReset.drop 2) := by
    simp [resetEvents, acquireEvents]
    rfl
  have hconf : romEvents u romConfigure = configureEvents s := romEvents_configure u
  have hplanes : romEvents u romPlanes = planeEvents s := romEvents_planes (s := u) rfl rfl
  have htrig : romEvents u (romTrigger u.params) = triggerEvents wait s := romEvents_trigger u
  rw [hrom, romEvents_append, romEvents_append, romEvents_append, hconf, hplanes, htrig, updateEvents, hreset]
  simp only [List.append_assoc]

/-- The whole sequence uses at most 53 answers (R203). -/
theorem answersUsed_updateEvents_le (wait : Bool) (s : State) : answersUsed (updateEvents wait s) ≤ 53 := by
  have hreset : answersUsed (resetEvents s) ≤ 5 := by
    unfold resetEvents
    split <;> simp [Event.usesAnswer]
  have hconf : answersUsed (configureEvents s) ≤ 24 := by
    simp only [configureEvents, answersUsed_append]
    grind [answersUsed_sentFrame_le, answersUsed_nil]
  have hplanes : answersUsed (planeEvents s) ≤ 18 := by
    simp only [planeEvents, answersUsed_append]
    grind [answersUsed_sentFrame_le]
  have htrig : answersUsed (triggerEvents wait s) ≤ 6 := by
    cases wait <;> simp [triggerEvents, sentFrame, Event.usesAnswer]
  simp only [updateEvents, answersUsed_append]
  omega

/-- The last entry that is performed leaves SLEEPING when the caller waits and TRIGGERED when it does not (R203). -/
theorem stateAfter_trigger (s : State) (es : List RomEntry) (st : SeqState) :
    stateAfter s (es ++ romTrigger s.params) st = if s.wait then .sleeping else .triggered := by
  rw [stateAfter, List.foldl_append]
  cases hw : s.wait <;> simp [romTrigger, Condition.holds, hw]

/-! ## The statements of 00_scope.md -/

/-- Settles O40: the two branches of `runEntry`. -/
theorem stepRunsTheRomEntry : Obligations.StepRunsTheRomEntry := by
  intro s hi
  refine ⟨fun t hc hx => ?_, fun hc => ?_⟩
  · rw [step_of_exec hi hc hx]
    simp [State.goOn]
  · have hf : s.fetch.cond.holds s = false := hc
    rw [step, if_pos hi, runEntry, if_neg (by simp [hf]), settled_of_not_holds hf]

/-- Settles O42: each way a step can go appends one event in flight, and none at rest. -/
theorem eachStepInFlightIsOneEvent : Obligations.EachStepInFlightIsOneEvent := by
  intro s t h
  obtain ⟨u, hi, -, -, heff, rfl⟩ | ⟨hi, hc, -⟩ | ⟨hi, -, rfl⟩ | ⟨op, rest, u, hi, -, hx, rfl⟩ := step_cases h
  · obtain ⟨ev, hev⟩ := heff.event
    exact ⟨fun _ _ => ⟨ev, by rw [goOn_tr, hev]⟩, fun hr => by simp [hi] at hr⟩
  · exact ⟨fun _ hp => absurd hp (by simpa [State.fetch] using hc), fun hr => by simp [hi] at hr⟩
  · exact ⟨fun hf => by simp [hi] at hf, fun _ => rfl⟩
  · exact ⟨fun hf => by simp [hi] at hf, fun _ => by rw [begun_tr, exec_hostOp_tr hx]⟩

/-- Settles O57: the acceptance, entries 0 and 1, and then the loop over the other entries. -/
theorem completedUpdateEmitsTheWholeSequence : Obligations.CompletedUpdateEmitsTheWholeSequence := by
  intro s wait rest hi hc hcalls _ hg
  let a := s.issued wait rest
  let u := a.opened
  have hev := updateEvents_issued wait rest s
  have hopen : runSteps ((acquireEvents s).length + 1) a.settled = .next (skipTo ((romReg u.params).drop 2) u) :=
    runSteps_opened (s := a) rfl rfl fun k hk => (hg k (by omega)).1
  have hpre : answersUsed (acquireEvents s ++ [.setLine .inactive .done]) = (acquireEvents s).length + 1 := by
    unfold acquireEvents
    split <;> simp [Event.usesAnswer]
  have hbudget := answersUsed_updateEvents_le wait s
  rw [hev, answersUsed_append, hpre] at hbudget
  have hrest := runSteps_skipTo _ (s := u) (k := 2) rfl (by decide) rfl rfl (grantsReady_drop (grantsReady_mono hg hbudget))
  refine ⟨u.afterEntries ((romReg s.params).drop 2), ?_, ?_, ?_, rfl, rfl, rfl, rfl, rfl, rfl, rfl, rfl, rfl, rfl, rfl,
    rfl, rfl, rfl, hc⟩
  · rw [runSteps_succ _ (step_update hi hc hcalls), hev, List.length_append, List.length_append, List.length_singleton,
      runSteps_add hopen]
    exact hrest
  · rw [hev, ← List.append_assoc]
    rfl
  · exact stateAfter_trigger u (romReset.drop 2 ++ romConfigure ++ romPlanes) _

end Sys2Proof.Machine

namespace Sys2Proof.Machine

/-! ## What a step writes, and the invariant (10_state.md R20 to R46; 44_sequencer.md R201 to R204)

What the loop's skip does, which entries it can skip, and what a host operation does are each said once; the whole-machine rules and
the invariant are case splits over them. -/

/-! ### The loop between two events (R201, R30) -/

/-- What running the loop from entry `n` on does: `STEP` names the first entry that is performed, or the UPDATE returns OK. -/
theorem skipTo_drop_cases (s : State) (n : Nat) :
    (∃ k : RomIndex, n ≤ k.val ∧ (∀ j : RomIndex, n ≤ j.val → j < k → (romEntry s.params j).cond.holds s = false) ∧
      (romEntry s.params k).cond.holds s = true ∧ skipTo ((romReg s.params).drop n) s = { s with step := k }) ∨
    ((∀ j : RomIndex, n ≤ j.val → (romEntry s.params j).cond.holds s = false) ∧
      skipTo ((romReg s.params).drop n) s = s.finish) := by
  generalize hes : (romReg s.params).drop n = es
  induction es generalizing n with
  | nil =>
    have hn : 34 ≤ n := List.drop_eq_nil_iff.mp hes
    exact .inr ⟨fun j hj => absurd j.isLt (by omega), rfl⟩
  | cons e es ih =>
    obtain ⟨hn, rfl, htail⟩ := romEntry_of_drop hes
    by_cases hc : (romEntry s.params ⟨n, hn⟩).cond.holds s = true
    · refine .inl ⟨⟨n, hn⟩, le_rfl, fun j hj hlt => absurd hj (Nat.not_le_of_lt hlt), hc, ?_⟩
      rw [skipTo, if_pos hc, romEntry_index]
    · have hhere (j : RomIndex) (hj : n ≤ j.val) (hne : ¬n + 1 ≤ j.val) : (romEntry s.params j).cond.holds s = false := by
        obtain rfl : j = ⟨n, hn⟩ := Fin.ext (by simp only; omega)
        simpa using hc
      rw [skipTo, if_neg hc]
      obtain ⟨k, hk, hskip, hkc, hr⟩ | ⟨hskip, hr⟩ := ih (n + 1) htail
      · exact .inl ⟨k, by omega, fun j hj hlt => (em _).elim (fun h => hskip j h hlt) (hhere j hj), hkc, hr⟩
      · exact .inr ⟨fun j hj => (em _).elim (hskip j) (hhere j hj), hr⟩

/-- What the advance of `STEP` can do (R201, R30). -/
theorem advance_cases (s : State) :
    (∃ k : RomIndex, s.step < k ∧ (∀ j : RomIndex, s.step < j → j < k → (romEntry s.params j).cond.holds s = false) ∧
      (romEntry s.params k).cond.holds s = true ∧ s.advance = { s with step := k }) ∨
    ((∀ j : RomIndex, s.step < j → (romEntry s.params j).cond.holds s = false) ∧ s.advance = s.finish) :=
  skipTo_drop_cases s (s.step.val + 1)

/-- An UPDATE that begins stands at entry 0, or at entry 1 where the transport is acquired (R201, R203). -/
theorem settled_of_step_zero {s : State} (h : s.step = 0) : s.settled = { s with step := if s.init then 1 else 0 } := by
  cases hi : s.init <;> simp [State.settled, h, romReg, romReset, skipTo, Condition.holds, hi]

/-- After an entry that raised, the UPDATE is over and `STEP` stays 0 (R295). -/
theorem goOn_of_ended {t : State} (hi : t.inflight = false) : t.goOn = t := by
  simp [State.goOn, hi]

/-- A host operation that starts no UPDATE is the whole step (R73). -/
theorem begun_of_rest {s : State} (hi : s.inflight = false) : s.begun = s := by
  simp [State.begun, hi]

theorem begun_of_inflight {s : State} (hi : s.inflight = true) : s.begun = s.settled := by
  simp [State.begun, hi]

/-! ### The register ROM as tables over its index (R203) -/

/-- The condition of each entry. -/
theorem romEntry_cond_table (p : Params) (k : RomIndex) :
    (romEntry p k).cond =
      if k.val = 0 then .initClear else if k.val = 17 then .borderMatches else if k.val = 18 then .profileYellow
      else if k.val = 19 then .redAtOverride else if 32 ≤ k.val then .waitSet else .always := by
  fin_cases k <;> rfl

/-- Each entry after entry 0 and before the last writes the `STATE` that stands when the entry after it is about to be performed
(R204). -/
theorem romEntry_state_table (p : Params) (k : RomIndex) :
    (romEntry p k).state =
      if k.val = 0 then .resetting else if k.val = 33 then .sleeping else stateBefore (k.val + 1) := by
  fin_cases k <;> rfl

/-- Only the conditional entries are ever skipped. -/
theorem index_of_skipped {p : Params} {s : State} {k : RomIndex} (h : (romEntry p k).cond.holds s = false) :
    k.val = 0 ∨ k.val = 17 ∨ k.val = 18 ∨ k.val = 19 ∨ 32 ≤ k.val := by
  by_contra hn
  rw [romEntry_cond_table, if_neg (by omega), if_neg (by omega), if_neg (by omega), if_neg (by omega), if_neg (by omega)] at h
  cases h

/-- The wait and the deep sleep have one condition: `WAIT` (R203, entries 32 and 33). -/
theorem holds_waitSet {p : Params} {s : State} {k : RomIndex} (hk : 32 ≤ k.val) : (romEntry p k).cond.holds s = s.wait := by
  rw [romEntry_cond_table, if_neg (by omega), if_neg (by omega), if_neg (by omega), if_neg (by omega), if_pos hk]
  rfl

/-- The waits of the register ROM, by cause (R213). -/
theorem romEntry_waitbusy {p : Params} {k : RomIndex} {w : Nat} {c : TimeoutCause} (h : (romEntry p k).instr = .waitbusy w c) :
    k = 6 ∧ c = .softReset ∨ k = 32 ∧ c = .refresh := by
  match k, h with
  | 6, h =>
    cases h
    exact .inl ⟨rfl, rfl⟩
  | 32, h =>
    cases h
    exact .inr ⟨rfl, rfl⟩
  | 0, h | 1, h | 2, h | 3, h | 4, h | 5, h | 7, h | 8, h | 9, h | 10, h | 11, h | 12, h | 13, h | 14, h | 15, h | 16, h
  | 17, h | 18, h | 19, h | 20, h | 21, h | 22, h | 23, h | 24, h | 25, h | 26, h | 27, h | 28, h | 29, h | 30, h | 31, h
  | 33, h => cases h
  | ⟨n + 34, hn⟩, _ => exact absurd hn (by omega)

theorem stateBefore_configuring {k : Nat} (h : 8 ≤ k) (h' : k ≤ 20) : stateBefore k = .configuring := by
  rw [stateBefore, if_neg (by omega), if_neg (by omega), if_pos h']

/-- When entry `n` is about to be performed and those between `k` and it were skipped, the `STATE` entry `k` wrote is the one R204
gives: what is skipped on the way to a performed entry lies inside transition 3, because entries 32 and 33 share their condition. -/
theorem state_eq_stateBefore_of_skipped {p : Params} {s : State} {k n : RomIndex} (hlt : k < n) (hn : 2 ≤ n.val)
    (hskip : ∀ j : RomIndex, k < j → j < n → (romEntry p j).cond.holds s = false)
    (hc : (romEntry p n).cond.holds s = true) : (romEntry p k).state = stateBefore n.val := by
  have hlt' : k.val < n.val := hlt
  have hn33 := n.isLt
  have between (j : Nat) (hj : k.val < j) (hjn : j < n.val) : 17 ≤ j ∧ j ≤ 19 := by
    have hs := hskip ⟨j, by omega⟩ hj hjn
    by_cases h32 : 32 ≤ j
    · rw [holds_waitSet h32, ← holds_waitSet (p := p) (k := n) (by omega), hc] at hs
      cases hs
    · have := index_of_skipped hs
      simp only at this
      omega
  rw [romEntry_state_table]
  by_cases hnext : k.val + 1 = n.val
  · rw [if_neg (by omega), if_neg (by omega), hnext]
  · have hfirst := between (k.val + 1) (by omega) (by omega)
    have hlast := between (n.val - 1) (by omega) (by omega)
    rw [if_neg (by omega), if_neg (by omega), stateBefore_configuring (by omega) (by omega),
      stateBefore_configuring (by omega) (by omega)]

/-- The last entry an UPDATE performs leaves TRIGGERED or SLEEPING (R200, R203). -/
theorem state_of_last_performed {p : Params} {s : State} {k : RomIndex} (hc : 1 ≤ k.val → (romEntry p k).cond.holds s = true)
    (hskip : ∀ j : RomIndex, k < j → (romEntry p j).cond.holds s = false) :
    (romEntry p k).state = .triggered ∨ (romEntry p k).state = .sleeping := by
  have h31 : ¬k.val < 31 := fun h => absurd (index_of_skipped (hskip 31 h)) (by decide)
  have h32 : k.val ≠ 32 := fun h => by
    have h33 := hskip 33 (show k.val < 33 by omega)
    rw [holds_waitSet (by decide), ← holds_waitSet (p := p) (k := k) (by omega), hc (by omega)] at h33
    cases h33
  have hends : k.val = 31 ∨ k.val = 33 := by omega
  obtain hk | hk := hends
  · obtain rfl : k = 31 := Fin.ext hk
    exact .inl rfl
  · obtain rfl : k = 33 := Fin.ext hk
    exact .inr rfl

/-! ### What a host operation can do (R93, R120, R126, R140, R143, R201) -/

/-- What a host operation that is not refused leaves: a result alone, the writes of its own rule and OK, or an accepted UPDATE. -/
inductive HostEffect (s : State) : HostOp → State → Prop
  | replied {op : HostOp} (r : CallResult) : HostEffect s op (s.reply r)
  | configured {w h : Nat} {name : String} {c : BitVec 2} {fh fv : Bool} {id : Option IdentityRecord} {e : ResEntry}
      (prof : Profile) (he : e ∈ s.params.resTable) :
      HostEffect s (.configure w h name c fh fv id) ((s.configured e prof c fh fv id).reply .ok)
  | bordered {c : BitVec 2} (hc : s.cfgv = true) :
      HostEffect s (.setborder c) (State.reply .ok { s with regs := { s.regs with border := borderAfter s.regs.border c } })
  | painted {x y : Int} {c : Byte} (hc : s.cfgv = true) (hb : inBounds x y s = true) :
      HostEffect s (.setpixel x y c) (State.reply .ok { s with fs := s.fs.write (s.cellAddress x.toNat y.toNat) c })
  | loaded {raster : List Byte} (hc : s.cfgv = true) (hl : raster.length = s.cellCount) :
      HostEffect s (.loadframe raster) (State.reply .ok { s with fs := Memory.ofCells 0 raster })
  | accepted {wait : Bool} (hc : s.cfgv = true) : HostEffect s (.update wait) (s.accept wait).packed

theorem exec_hostOp_cases {op : HostOp} {s t : State} (h : exec op.toInstr s = .next t) :
    s.inflight = false ∧ HostEffect s op t := by
  cases op with
  | configure w h' name c fh fv id =>
    obtain ⟨hi, ⟨r, -, rfl⟩ | ⟨e, prof, he, -, -, rfl⟩⟩ := exec_configure_cases h
    · exact ⟨hi, .replied r⟩
    · exact ⟨hi, .configured prof (List.mem_of_find?_eq_some he)⟩
  | setborder c =>
    obtain ⟨hi, hc, rfl⟩ := exec_setborder_cases h
    exact ⟨hi, .bordered hc⟩
  | setpixel x y c =>
    obtain ⟨hi, hc, ⟨r, rfl⟩ | ⟨-, hb, rfl⟩⟩ := exec_setpixel_cases h
    · exact ⟨hi, .replied r⟩
    · exact ⟨hi, .painted hc hb⟩
  | loadframe raster =>
    obtain ⟨hi, hc, hl, rfl⟩ := exec_loadframe_cases h
    exact ⟨hi, .loaded hc hl⟩
  | update wait =>
    obtain ⟨hi, hc, rfl⟩ := exec_update_cases h
    exact ⟨hi, .accepted hc⟩

/-- `inBounds` as the four comparisons of R140. -/
theorem inBounds_iff {x y : Int} {s : State} :
    inBounds x y s = true ↔ 0 ≤ x ∧ x < s.regs.w ∧ 0 ≤ y ∧ y < s.regs.h := by
  simp [inBounds, and_assoc]

/-- A cell inside the store has an address below `W * H` (R60). -/
theorem cellAddress_lt {x y : Int} {s : State} (h : inBounds x y s = true) :
    s.cellAddress x.toNat y.toNat < s.cellCount := by
  obtain ⟨hx, hxw, hy, hyh⟩ := inBounds_iff.mp h
  have hx' : x.toNat < s.regs.w := by omega
  have hy' : y.toNat + 1 ≤ s.regs.h := by omega
  calc y.toNat * s.regs.w + x.toNat < y.toNat * s.regs.w + s.regs.w := by omega
    _ = s.regs.w * (y.toNat + 1) := by ring
    _ ≤ s.regs.w * s.regs.h := Nat.mul_le_mul_left _ hy'

/-! ### What a step keeps of the registers, the store and the planes (R28, R39, R40) -/

/-- The data of the block: registers, frame store and planes are as they were. -/
structure KeepsData (s t : State) : Prop where
  regs : t.regs = s.regs
  fs : t.fs = s.fs
  pa : t.pa = s.pa
  pb : t.pb = s.pb

/-- A step keeps the data, or it is a host operation of a block at rest. -/
theorem step_keepsData_or_call {s t : State} (h : step s = .next t) :
    KeepsData s t ∨ (s.inflight = false ∧ ∃ op rest u, s.calls = op :: rest ∧ HostEffect { s with calls := rest } op u ∧
      t = u.begun) := by
  obtain ⟨u, -, -, -, heff, rfl⟩ | ⟨-, -, rfl⟩ | ⟨-, -, rfl⟩ | ⟨op, rest, u, hi, hcalls, hx, rfl⟩ := step_cases h
  · exact .inl ⟨(goOn_regs u).trans heff.regs, (goOn_fs u).trans heff.fs, (goOn_pa u).trans heff.pa,
      (goOn_pb u).trans heff.pb⟩
  · exact .inl ⟨settled_regs s, settled_fs s, settled_pa s, settled_pb s⟩
  · exact .inl ⟨rfl, rfl, rfl, rfl⟩
  · exact .inr ⟨hi, op, rest, u, hcalls, (exec_hostOp_cases hx).2, rfl⟩

/-! ### What a step never takes back (R31, R32, R35, R41) -/

/-- Parameters kept, trace and results extended, flags not cleared. -/
structure Grows (s t : State) : Prop where
  params : t.params = s.params
  tr : s.tr <+: t.tr
  results : s.results <+: t.results
  init : s.init = true → t.init = true
  cfgv : s.cfgv = true → t.cfgv = true
  warn : s.warn = true → t.warn = true

theorem Grows.refl (s : State) : Grows s s :=
  ⟨rfl, List.prefix_rfl, List.prefix_rfl, id, id, id⟩

theorem Grows.trans {s t u : State} (h : Grows s t) (h' : Grows t u) : Grows s u :=
  ⟨h'.params.trans h.params, h.tr.trans h'.tr, h.results.trans h'.results, h'.init ∘ h.init, h'.cfgv ∘ h.cfgv, h'.warn ∘ h.warn⟩

theorem grows_reply (s : State) (r : CallResult) : Grows s (s.reply r) :=
  ⟨rfl, List.prefix_rfl, List.prefix_append _ _, id, id, id⟩

theorem grows_skipTo (es : List RomEntry) (s : State) : Grows s (skipTo es s) := by
  obtain ⟨e, -, -, hr⟩ | ⟨-, hr⟩ := skipTo_cases s es <;> rw [hr]
  · exact ⟨rfl, List.prefix_rfl, List.prefix_rfl, id, id, id⟩
  · exact ⟨rfl, List.prefix_rfl, List.prefix_append _ _, id, id, id⟩

theorem grows_goOn (s : State) : Grows s s.goOn := by
  unfold State.goOn
  split
  · exact grows_skipTo _ s
  · exact .refl s

theorem grows_begun (s : State) : Grows s s.begun := by
  unfold State.begun
  split
  · exact grows_skipTo _ s
  · exact .refl s

theorem grows_entry {i : Instr} {s t : State} (h : EntryEffect i s t) : Grows s t := by
  obtain ⟨ev, hev⟩ := h.event
  refine ⟨h.params, hev ▸ List.prefix_append _ _, ?_, h.init, fun hc => h.cfgv.trans hc, h.warn⟩
  obtain ⟨-, -, -, -, -, hr⟩ | ⟨c, -, -, -, -, -, hr, -⟩ := h.ends <;> rw [hr]
  exact List.prefix_append _ _

theorem grows_hostOp {op : HostOp} {s t : State} (h : HostEffect s op t) : Grows s t := by
  cases h with
  | replied r => exact grows_reply s r
  | configured prof he => exact ⟨rfl, List.prefix_rfl, List.prefix_append _ _, id, fun _ => rfl, id⟩
  | bordered hc | painted hc hb | loaded hc hl => exact ⟨rfl, List.prefix_rfl, List.prefix_append _ _, id, id, id⟩
  | accepted hc => exact ⟨rfl, List.prefix_rfl, List.prefix_rfl, id, id, id⟩

/-! ### What the advance of `STEP` leaves of an UPDATE in flight (R30, R201) -/

/-- `STEP` goes up and the caller waits on, or the UPDATE ends with STEP 0 and one result. -/
theorem advance_up_or_ends {s : State} (hi : s.inflight = true) :
    (s.advance.inflight = true ∧ s.step < s.advance.step ∧ s.advance.results = s.results) ∨
    (s.advance.inflight = false ∧ s.advance.step = 0 ∧ s.advance.results.length = s.results.length + 1) := by
  obtain ⟨k, hlt, -, -, hr⟩ | ⟨-, hr⟩ := advance_cases s <;> rw [hr]
  · exact .inl ⟨hi, hlt, rfl⟩
  · exact .inr ⟨rfl, rfl, by simp⟩

/-! ### The invariant at rest -/

/-- The invariant does not speak of the caller's two lists. -/
theorem inv_withCaller {s : State} (h : Inv s) (calls : List HostOp) (results : List CallResult) :
    Inv { s with calls := calls, results := results } where
  params := h.params
  canonical := h.canonical
  bounded := h.bounded
  geometry := h.geometry
  unconfigured hc :=
    have hu := h.unconfigured hc
    ⟨hu.state, hu.init, hu.inflight, hu.store, hu.trace, hu.border⟩
  rest hi :=
    have hr := h.rest hi
    ⟨hr.step, hr.beat, hr.resting, hr.error, hr.noError, hr.softReset, hr.refresh⟩
  flight hi :=
    have hf := h.flight hi
    have hcond := holds_congr (s := s) (t := { s with calls := calls, results := results }) rfl rfl rfl rfl
    ⟨hf.configured, hf.err, hf.errstep, hf.planeA, hf.planeB, hf.acquired, (hcond _).trans hf.performed, hf.state, hf.second⟩

theorem inv_reply {s : State} (h : Inv s) (r : CallResult) : Inv (s.reply r) :=
  inv_withCaller h s.calls (s.results ++ [r])

/-- At rest the registers and the store of a configured block may be written with a geometry of the table and a canonical store
inside it (R120, R126, R140, R143). -/
theorem inv_written {s : State} (h : Inv s) (hi : s.inflight = false) {r : Regs} {m : Memory} {c : Bool} (hc : c = true)
    (hg : geometryFrom s.params r) (hm : Memory.wf m) (hb : ∀ d ∈ m, d.1 < r.w * r.h) :
    Inv { s with regs := r, fs := m, cfgv := c } where
  params := h.params
  canonical := hm
  bounded := hb
  geometry _ := hg
  unconfigured hn := absurd (hc.symm.trans hn) (by decide)
  rest _ :=
    have hr := h.rest hi
    ⟨hr.step, hr.beat, hr.resting, hr.error, hr.noError, hr.softReset, hr.refresh⟩
  flight hf := absurd (hi.symm.trans hf) (by decide)

/-- A configured block whose registers, store and parameters are kept has the invariant when its control state has its clauses. -/
theorem inv_of_kept {s t : State} (h : Inv s) (hc : s.cfgv = true) (hcfgv : t.cfgv = s.cfgv) (hparams : t.params = s.params)
    (hregs : t.regs = s.regs) (hfs : t.fs = s.fs) (hrest : t.inflight = false → AtRest t)
    (hflight : t.inflight = true → InFlight t) : Inv t where
  params := hparams ▸ h.params
  canonical := hfs ▸ h.canonical
  bounded := by
    unfold State.cellCount
    rw [hfs, hregs]
    exact h.bounded
  geometry _ := by
    rw [hparams, hregs]
    exact h.geometry hc
  unconfigured hn := absurd ((hcfgv.trans hc).symm.trans hn) (by decide)
  rest := hrest
  flight := hflight

/-- Valid parameters give a table entry as many cells as controller pixels (R36). -/
theorem cells_of_geometry {p : Params} {r : Regs} (hp : p.valid = true) (hg : geometryFrom p r) :
    r.w * r.h = r.cols * r.rows := by
  obtain ⟨e, he, hw, hh, hcols, hrows, -⟩ := hg
  have htable : p.resTable.all ResEntry.valid = true := by
    simp only [Params.valid, resTableValid, Bool.and_eq_true] at hp
    obtain ⟨⟨⟨-, hall⟩, -⟩, -⟩ := hp
    exact hall
  have hvalid : e.valid = true := List.all_eq_true.mp htable e he
  simp only [ResEntry.valid, Bool.and_eq_true, beq_iff_eq] at hvalid
  obtain ⟨⟨⟨⟨⟨⟨hcells, -⟩, -⟩, -⟩, -⟩, -⟩, -⟩ := hvalid
  rw [← hw, ← hh, ← hcols, ← hrows, hcells]

/-- An accepted UPDATE, moved to its first entry (R201). -/
theorem begun_accepted (wait : Bool) (s : State) :
    (s.accept wait).packed.begun = { (s.accept wait).packed with step := if s.init then 1 else 0 } :=
  (begun_of_inflight rfl).trans (settled_of_step_zero rfl)

/-- An UPDATE that is accepted and stands at its first entry has the clauses of an UPDATE in flight (R201, R40). -/
theorem inFlight_accepted {s : State} (h : Inv s) (hi : s.inflight = false) (hc : s.cfgv = true) (wait : Bool) :
    InFlight (s.accept wait).packed.begun := by
  have hcells : s.cellCount = s.regs.cols * s.regs.rows := cells_of_geometry h.params (h.geometry hc)
  have hbeat := (h.rest hi).beat
  rw [begun_accepted]
  exact
    { configured := hc
      err := rfl
      errstep := rfl
      planeA := (planeA_length (s.accept wait)).trans (congrArg (fun n => (n + 7) / 8) hcells)
      planeB := (planeB_length (s.accept wait)).trans (congrArg (fun n => (n + 7) / 8) hcells)
      acquired := fun hk => by
        by_contra hn
        have ha : s.init = false := by simpa using hn
        simp [ha] at hk
      performed := by cases ha : s.init <;> simp [ha] <;> rfl
      state := fun _ hk => by
        cases ha : s.init <;> simp [ha] at hk
      second := fun hb => absurd (hbeat.symm.trans hb) (by decide) }

theorem inv_begun_of_rest {s : State} (hi : s.inflight = false) (h : Inv s) : Inv s.begun := by
  rwa [begun_of_rest hi]

/-- Every host operation keeps the invariant (R28, R32, R39, R201). -/
theorem inv_hostOp {op : HostOp} {s t : State} (h : Inv s) (hi : s.inflight = false) (heff : HostEffect s op t) :
    Inv t.begun := by
  cases heff with
  | replied r => exact inv_begun_of_rest hi (inv_reply h r)
  | configured prof he =>
    exact inv_begun_of_rest hi (inv_reply (inv_written h hi rfl ⟨_, he, rfl, rfl, rfl, rfl, rfl⟩ wf_nil (by simp)) _)
  | bordered hc =>
    exact inv_begun_of_rest hi (inv_reply (inv_written (r := { s.regs with border := borderAfter s.regs.border _ }) h hi hc
      (h.geometry hc) h.canonical h.bounded) _)
  | painted hc hb =>
    refine inv_begun_of_rest hi (inv_reply (inv_written h hi hc (h.geometry hc) (write_wf _ _ h.canonical) fun d hd => ?_) _)
    obtain hd | hd := mem_write hd
    · exact hd ▸ cellAddress_lt hb
    · exact h.bounded d hd
  | loaded hc hl =>
    refine inv_begun_of_rest hi (inv_reply (inv_written h hi hc (h.geometry hc) (ofCells_wf 0 _) fun d hd => ?_) _)
    have hlt := ofCells_bounded hd
    rw [hl, Nat.zero_add] at hlt
    exact hlt
  | accepted hc =>
    refine inv_of_kept h hc (begun_cfgv _) (begun_params _) (begun_regs _) (begun_fs _) (fun hn => ?_)
      fun _ => inFlight_accepted h hi hc _
    rw [begun_accepted] at hn
    cases hn

/-! ### The invariant in flight -/

/-- Just after the due event of the entry at `STEP`, when it did not raise and before the loop moves on: the clauses of an UPDATE in
flight that do not depend on where `STEP` goes next (R201, R204, R210). -/
structure EventDone (s : State) : Prop where
  inflight : s.inflight = true
  configured : s.cfgv = true
  err : s.err = .none
  errstep : s.errstep = 0
  planeA : s.pa.length = planeLength s.regs.cols s.regs.rows
  planeB : s.pb.length = planeLength s.regs.cols s.regs.rows
  acquired : s.init = true
  performed : 1 ≤ s.step.val → (romEntry s.params s.step).cond.holds s = true
  state : s.state = (romEntry s.params s.step).state

/-- An ACQUIRE that did not raise leaves the transport acquired (R210). -/
theorem exec_acquire_init {s t : State} (ha : s.init = false) (hx : exec .acquire s = .next t) (hi : t.inflight = true) :
    t.init = true := by
  rw [exec, execAcquire, if_neg (by simp [ha])] at hx
  split at hx <;> cases hx
  · cases hi
  · rfl

/-- After the due event of entry `k` the transport is acquired, unless the event raised. -/
theorem init_of_event {p : Params} {k : RomIndex} {s t : State} (hx : exec (romEntry p k).instr s = .next t)
    (heff : EntryEffect (romEntry p k).instr s t) (hs : 1 ≤ k.val → s.init = true) (hi : t.inflight = true) : t.init = true := by
  cases ha : s.init with
  | true => exact heff.init ha
  | false =>
    obtain rfl : k = 0 := by
      by_contra hk
      simp [hs (Fin.pos_iff_ne_zero.mpr hk)] at ha
    exact exec_acquire_init ha hx hi

/-- An event of an UPDATE in flight that did not raise. -/
theorem eventDone_of_kept {s t : State} (h : InFlight s) (hi : s.inflight = true)
    (hx : exec s.fetch.instr { s with state := s.fetch.state } = .next t)
    (heff : EntryEffect s.fetch.instr { s with state := s.fetch.state } t)
    (hkept : t.state = s.fetch.state ∧ t.step = s.step ∧ t.inflight = s.inflight ∧ t.err = s.err ∧ t.errstep = s.errstep) :
    EventDone t := by
  obtain ⟨hstate, hstep, hinfl, herr, herrstep⟩ := hkept
  have hinit : t.init = true := init_of_event hx heff h.acquired (hinfl.trans hi)
  exact
    { inflight := hinfl.trans hi
      configured := heff.cfgv.trans h.configured
      err := herr.trans h.err
      errstep := herrstep.trans h.errstep
      planeA := by rw [heff.pa, heff.regs]; exact h.planeA
      planeB := by rw [heff.pb, heff.regs]; exact h.planeB
      acquired := hinit
      performed := fun hk => by
        rw [hstep] at hk ⊢
        rw [heff.params, holds_congr (s := s) heff.params heff.regs (hinit.trans (h.acquired hk).symm) heff.wait]
        exact h.performed
      state := by
        rw [hstate, hstep, heff.params]
        rfl }

/-- Where the second event of the entry is due, `STEP` stays (R7, R213, R214). -/
theorem EventDone.inFlight_second {s : State} (h : EventDone s) (hb : s.beat = .second)
    (hi : hasSecondEvent (romEntry s.params s.step).instr = true) : InFlight s := by
  have hk : 1 ≤ s.step.val := Fin.pos_iff_ne_zero.mpr fun h0 => by
    rw [h0] at hi
    cases hi
  exact ⟨h.configured, h.err, h.errstep, h.planeA, h.planeB, fun _ => h.acquired, h.performed hk,
    fun hf => absurd (hb.symm.trans hf) (by decide), fun _ => ⟨hi, h.state⟩⟩

/-- Where the loop moves on to another entry, `STATE` is the one R204 gives there. -/
theorem EventDone.inFlight_moved {s : State} (h : EventDone s) (hb : s.beat = .first) {k : RomIndex} (hlt : s.step < k)
    (hskip : ∀ j : RomIndex, s.step < j → j < k → (romEntry s.params j).cond.holds s = false)
    (hc : (romEntry s.params k).cond.holds s = true) : InFlight { s with step := k } where
  configured := h.configured
  err := h.err
  errstep := h.errstep
  planeA := h.planeA
  planeB := h.planeB
  acquired _ := h.acquired
  performed := (holds_congr (s := s) (t := { s with step := k }) rfl rfl rfl rfl _).trans hc
  state _ hk := h.state.trans (state_eq_stateBefore_of_skipped hlt hk hskip hc)
  second hs := absurd (hb.symm.trans hs) (by decide)

/-- Where the loop has no entry left, the UPDATE returns OK and the block rests TRIGGERED or SLEEPING (R200, R201). -/
theorem EventDone.atRest_finish {s : State} (h : EventDone s) (hb : s.beat = .first)
    (hskip : ∀ j : RomIndex, s.step < j → (romEntry s.params j).cond.holds s = false) : AtRest s.finish := by
  have hlast : s.state = .triggered ∨ s.state = .sleeping := h.state ▸ state_of_last_performed h.performed hskip
  have hne : s.state ≠ .error := by
    obtain hl | hl := hlast <;> simp [hl]
  exact
    { step := rfl
      beat := hb
      resting := hlast.elim (fun hl => .inr (.inl hl)) (fun hl => .inr (.inr (.inl hl)))
      error := ⟨fun he => absurd he hne, fun he => absurd h.err he⟩
      noError := fun _ => h.errstep
      softReset := fun he => absurd (h.err.symm.trans he) (by decide)
      refresh := fun he => absurd (h.err.symm.trans he) (by decide) }

/-- After the last event of an entry the loop moves on or returns. -/
theorem EventDone.control_advance {s : State} (h : EventDone s) (hb : s.beat = .first) :
    (s.advance.inflight = false → AtRest s.advance) ∧ (s.advance.inflight = true → InFlight s.advance) := by
  obtain ⟨k, hlt, hskip, hc, hr⟩ | ⟨hskip, hr⟩ := advance_cases s <;> rw [hr]
  · exact ⟨fun hn => absurd (h.inflight.symm.trans hn) (by decide), fun _ => h.inFlight_moved hb hlt hskip hc⟩
  · exact ⟨fun _ => h.atRest_finish hb hskip, fun hn => by cases hn⟩

theorem trap_cause_ne_none (c : Trap) : c.cause ≠ .none := by
  rcases c with (_ | _) | _ <;> decide

/-- A trap taken at entry `k` (R295): a timeout comes from a wait, and the two waits stand at entries 6 and 32 (R213). -/
theorem atRest_of_trap {p : Params} {k : RomIndex} {t : State} {c : Trap}
    (hc : ∀ cause, c = .timeout cause → ∃ w, (romEntry p k).instr = .waitbusy w cause)
    (hstep : t.step = 0) (hb : t.beat = .first) (hstate : t.state = .error) (herr : t.err = c.cause) (herrstep : t.errstep = k) :
    AtRest t := by
  have hne : t.err ≠ .none := herr ▸ trap_cause_ne_none c
  have assemble : (t.err = .timeoutSoftReset → t.errstep = 6) → (t.err = .timeoutRefresh → t.errstep = 32) → AtRest t :=
    AtRest.mk hstep hb (.inr (.inr (.inr hstate))) ⟨fun _ => hne, fun _ => hstate⟩ fun h => absurd h hne
  cases c with
  | transport =>
    exact assemble (fun h => absurd (herr.symm.trans h) (by decide)) fun h => absurd (herr.symm.trans h) (by decide)
  | timeout cause =>
    obtain ⟨w, hw⟩ := hc cause rfl
    obtain ⟨rfl, rfl⟩ | ⟨rfl, rfl⟩ := romEntry_waitbusy hw
    · exact assemble (fun _ => herrstep) fun h => absurd (herr.symm.trans h) (by decide)
    · exact assemble (fun h => absurd (herr.symm.trans h) (by decide)) fun _ => herrstep

/-- The due event of an UPDATE in flight, and going on after it, keep the invariant's clauses about the control state. -/
theorem control_of_event {s t : State} (h : InFlight s) (hi : s.inflight = true)
    (hx : exec s.fetch.instr { s with state := s.fetch.state } = .next t)
    (heff : EntryEffect s.fetch.instr { s with state := s.fetch.state } t) :
    (t.goOn.inflight = false → AtRest t.goOn) ∧ (t.goOn.inflight = true → InFlight t.goOn) := by
  obtain ⟨hstate, hstep, hinfl, herr, herrstep, -⟩ | ⟨c, hstate, hstep, hinfl, herr, herrstep, -, hc⟩ := heff.ends
  · have hdone : EventDone t := eventDone_of_kept h hi hx heff ⟨hstate, hstep, hinfl, herr, herrstep⟩
    cases hb : t.beat with
    | first =>
      rw [goOn_of_first hdone.inflight hb]
      exact hdone.control_advance hb
    | second =>
      obtain ⟨-, hsec, -⟩ := heff.beat hb
      have hsec' : hasSecondEvent (romEntry t.params t.step).instr = true := by
        rw [hstep, heff.params]
        exact hsec
      rw [goOn_of_second hb]
      exact ⟨fun hn => absurd (hdone.inflight.symm.trans hn) (by decide), fun _ => hdone.inFlight_second hb hsec'⟩
  · have hb : t.beat = .first := by
      cases hb : t.beat with
      | first => rfl
      | second =>
        obtain ⟨-, -, hsame⟩ := heff.beat hb
        exact absurd (hinfl.symm.trans (hsame.trans hi)) (by decide)
    rw [goOn_of_ended hinfl]
    exact ⟨fun _ => atRest_of_trap hc hstep hb hstate herr herrstep, fun hn => absurd (hinfl.symm.trans hn) (by decide)⟩

/-! ### Frames and gates (R214, R32, R34) -/

/-- An instruction that is FRAME with a payload sends its command and its data, each when it is due and granted (R214). -/
theorem sendsFrame_of_exec {i : Instr} {op : Byte} {payload : List Byte} {s : State} (hg : s.env.Grants 1)
    (hp : payload ≠ []) (hx : exec i s = .next (sendFrame op payload s)) : SendsFrame i op payload s where
  command hb := by rw [hx, sendFrame_command hp hb (hg 0 Nat.one_pos)]
  data hb := by rw [hx, sendFrame_data hp hb (hg 0 Nat.one_pos)]

theorem whenIdle_refused {s : State} (hi : s.inflight = true) (go : Result) : whenIdle s go = .refused .updateInFlight :=
  if_pos hi

theorem whenConfigured_refused {s : State} (hi : s.inflight = false) (hc : s.cfgv = false) (go : Result) :
    whenConfigured s go = .refused .notConfigured := by
  simp [whenConfigured, whenIdle, hi, hc]

/-! ### The frames a word is read as, and the entries they select (R38, R95, R203) -/

/-- What decodes without a register-ROM entry is a frame of the decoder's table. -/
theorem decodeOpcode_mem {op : OpcodeParams} {b : Byte} {i : Instr} (h : decodeOpcode op none b = some i) :
    i ∈ (opcodeMap op).map Prod.snd := by
  obtain ⟨⟨c, j⟩, hfind, rfl⟩ := Option.map_eq_some_iff.mp h
  have hsame : atEntry none j = j := by cases j <;> rfl
  rw [hsame]
  exact List.mem_map_of_mem (List.mem_of_find?_eq_some hfind)

/-- The instruction of a decoded frame is the one its command byte stands for. -/
theorem decode_instr {op : OpcodeParams} {entry : Option RomIndex} {ws : List BusWord} {d : Decoded}
    (h : decode op entry ws = .ok d) : ∃ b, decodeOpcode op entry b = some d.instr := by
  unfold decode at h
  split at h
  · cases h
  · cases h
  · cases h
  · rename_i b ws _
    split at h
    · cases h
    · rename_i i hi
      split at h <;> cases h
      exact ⟨b, hi⟩

theorem decodeTableWord_mem {nbits w : Nat} {i : Instr} (h : decodeTableWord nbits w = some i) :
    i ∈ (opcodeMap Config.defaultOpcodes).map Prod.snd := by
  unfold decodeTableWord at h
  split at h
  · cases h
  · split at h
    · rename_i d hd
      cases h
      obtain ⟨b, hb⟩ := decode_instr hd
      exact decodeOpcode_mem hb
    · cases h

/-- A frame a word is read as selects an entry of the register ROM that holds it. -/
theorem selectEntry_of_decoded (s : State) {i : Instr} (h : i ∈ (opcodeMap Config.defaultOpcodes).map Prod.snd) :
    ∃ k ∈ entriesOf i, (∀ p, (romEntry p k).instr = i) ∧ s.selectEntry i =
      { s with inflight := true, step := k, beat := .first, wait := if i = .deepSleep then true else s.wait } := by
  have hrom : ∃ k ks, entriesOf i = k :: ks ∧ ∀ p, (romEntry p k).instr = i := by
    simp only [opcodeMap, List.map_append, List.map_cons, List.map_nil] at h
    fin_cases h <;> exact ⟨_, _, rfl, fun _ => rfl⟩
  obtain ⟨k, ks, hk, hi⟩ := hrom
  refine ⟨k, by simp [hk], hi, ?_⟩
  unfold State.selectEntry
  rw [hk]

/-- Of the frames a word is read as only DEEP_SLEEP has a condition (R265). -/
theorem condOf_decoded_holds {s : State} {i : Instr} (h : i ∈ (opcodeMap Config.defaultOpcodes).map Prod.snd)
    (hw : i = .deepSleep → s.wait = true) : (condOf i).holds s = true := by
  have hcond : ∀ j ∈ (opcodeMap Config.defaultOpcodes).map Prod.snd, j = .deepSleep ∨ condOf j = .always := by decide
  obtain rfl | ha := hcond i h
  · exact hw rfl
  · rw [ha]
    rfl

/-! ## The statements of 10_state.md -/

/-- Settles O58: a host operation at rest, and in flight the due event with what follows it, keep the invariant. -/
theorem stepKeepsTheInvariant : Obligations.StepKeepsTheInvariant := by
  intro s t h hstep
  obtain ⟨u, hi, -, hx, heff, rfl⟩ | ⟨hi, hc, -⟩ | ⟨-, -, rfl⟩ | ⟨op, rest, u, hi, -, hx, rfl⟩ := step_cases hstep
  · have hf := h.flight hi
    obtain ⟨hrest, hflight⟩ := control_of_event hf hi hx heff
    exact inv_of_kept h hf.configured ((goOn_cfgv u).trans heff.cfgv) ((goOn_params u).trans heff.params)
      ((goOn_regs u).trans heff.regs) ((goOn_fs u).trans heff.fs) hrest hflight
  · have hp : s.fetch.cond.holds s = true := (h.flight hi).performed
    rw [hp] at hc
    cases hc
  · exact h
  · exact inv_hostOp (inv_withCaller h rest s.results) hi (exec_hostOp_cases hx).2

/-- Settles O41: the first performed entry after `STEP` is unique. -/
theorem advanceSkipsToTheNextPerformedEntry : Obligations.AdvanceSkipsToTheNextPerformedEntry := by
  intro s
  obtain ⟨n, hlt, hskip, hc, hr⟩ | ⟨hskip, hr⟩ := advance_cases s
  · refine ⟨fun k hk hskipk hck => ?_, fun hnone => absurd (hnone n hlt) (by simp [hc])⟩
    obtain rfl : n = k := by
      rcases lt_trichotomy n k with hnk | hnk | hkn
      · exact absurd (hskipk n hlt hnk) (by simp [hc])
      · exact hnk
      · exact absurd (hskip k hk hkn) (by simp [hck])
    exact hr
  · exact ⟨fun k hk _ hck => absurd (hskip k hk) (by simp [hck]), fun _ => hr⟩

/-- Settles O49: of the host operations only CONFIGURE and SETBORDER leave other registers. -/
theorem onlyConfigureAndSetborderWriteRegisters : Obligations.OnlyConfigureAndSetborderWriteRegisters := by
  intro s t hstep hne
  obtain hk | ⟨hi, op, rest, u, hcalls, heff, rfl⟩ := step_keepsData_or_call hstep
  · exact absurd hk.regs hne
  rw [begun_regs] at hne ⊢
  rw [begun_cfgv, hcalls]
  refine ⟨hi, ?_⟩
  cases heff with
  | configured prof he => exact .inl ⟨_, _, _, _, _, _, _, rfl, rfl⟩
  | bordered hc => exact .inr ⟨_, rfl, rfl⟩
  | replied | painted | loaded | accepted => exact absurd rfl hne

/-- Settles O50: of the host operations only CONFIGURE, SETPIXEL and LOADFRAME leave another store. -/
theorem onlyThreeOperationsWriteTheStore : Obligations.OnlyThreeOperationsWriteTheStore := by
  intro s t hstep hne
  obtain hk | ⟨hi, op, rest, u, hcalls, heff, rfl⟩ := step_keepsData_or_call hstep
  · exact absurd hk.fs hne
  rw [begun_fs] at hne ⊢
  rw [hcalls]
  refine ⟨hi, ?_⟩
  cases heff with
  | configured prof he => exact .inl ⟨_, _, _, _, _, _, _, rfl, rfl⟩
  | painted hc hb =>
    obtain ⟨hx, hxw, hy, hyh⟩ := inBounds_iff.mp hb
    exact .inr (.inl ⟨_, _, _, rfl, hx, hxw, hy, hyh, fun b hb => read_write_other _ hb⟩)
  | loaded hc hl => exact .inr (.inr ⟨_, rfl, hl⟩)
  | replied | bordered | accepted => exact absurd rfl hne

/-- Settles O51: of the host operations only an accepted UPDATE leaves other planes. -/
theorem planesAreASnapshot : Obligations.PlanesAreASnapshot := by
  intro s t hstep hne
  obtain hk | ⟨hi, op, rest, u, hcalls, heff, rfl⟩ := step_keepsData_or_call hstep
  · exact absurd ⟨hk.pa, hk.pb⟩ hne
  cases heff with
  | accepted hc =>
    rw [begun_accepted, hcalls]
    exact ⟨hi, rfl, rfl, _, rfl, rfl, rfl⟩
  | replied | configured | bordered | painted | loaded =>
    exact absurd ⟨begun_pa _, begun_pb _⟩ hne

/-- Settles O52: an event and a host operation only add, and so does what follows them. -/
theorem nothingIsForgotten : Obligations.NothingIsForgotten := by
  intro s t hstep
  have hg : Grows s t := by
    obtain ⟨u, -, -, -, heff, rfl⟩ | ⟨-, -, rfl⟩ | ⟨-, -, rfl⟩ | ⟨op, rest, u, -, -, hx, rfl⟩ := step_cases hstep
    · have hu := grows_entry heff
      exact Grows.trans ⟨hu.params, hu.tr, hu.results, hu.init, hu.cfgv, hu.warn⟩ (grows_goOn u)
    · exact grows_skipTo _ s
    · exact .refl _
    · have hu := grows_hostOp (exec_hostOp_cases hx).2
      exact Grows.trans ⟨hu.params, hu.tr, hu.results, hu.init, hu.cfgv, hu.warn⟩ (grows_begun u)
  exact ⟨hg.params, hg.tr, hg.results, hg.init, hg.cfgv, hg.warn⟩

/-- Settles O53: the outcomes of an entry's event, each with what the advance of `STEP` does after it. -/
theorem stepIndexOnlyAdvances : Obligations.StepIndexOnlyAdvances := by
  intro s t hi hstep
  obtain ⟨u, -, -, -, heff, rfl⟩ | ⟨-, hc, rfl⟩ | ⟨hn, -, -⟩ | ⟨-, -, -, hn, -, -, -⟩ := step_cases hstep
  · refine ⟨(goOn_calls u).trans heff.calls, ?_⟩
    obtain ⟨-, hk, hinfl, -, -, hr⟩ | ⟨c, -, h0, hinfl, -, -, hr, -⟩ := heff.ends
    · cases hb : u.beat with
      | first =>
        rw [goOn_of_first (hinfl.trans hi) hb]
        have hadv := advance_up_or_ends (hinfl.trans hi)
        rw [hk, hr] at hadv
        exact .inr hadv
      | second =>
        rw [goOn_of_second hb]
        exact .inl ⟨hinfl.trans hi, hk, (heff.beat hb).1, hb, hr⟩
    · rw [goOn_of_ended hinfl]
      exact .inr (.inr ⟨hinfl, h0, by simp [hr]⟩)
  · rw [settled_of_not_holds hc]
    exact ⟨advance_calls s, .inr (advance_up_or_ends hi)⟩
  all_goals exact absurd (hi.symm.trans hn) (by decide)

/-- Settles O8: LUT_LOAD is a frame with the selected table as its payload. -/
theorem lutLoadSendsSeventyBytes : Obligations.LutLoadSendsSeventyBytes := by
  intro s hg table hblack hred hredHt hyellow
  have htable : table = romLut s.params.lut s.regs.lutsel := by
    cases hl : s.regs.lutsel with
    | black => exact hblack hl
    | red => exact hred hl
    | redHt => exact hredHt hl
    | yellow => exact hyellow hl
  have hlen : (table.voltage.toList ++ table.timing.toList).length = 70 := by simp
  refine ⟨hlen, sendsFrame_of_exec hg (List.ne_nil_of_length_pos (by omega)) ?_⟩
  rw [htable]
  rfl

/-- Settles O28: the gate of R34 comes first in every host operation. -/
theorem hostOperationsAreRefusedInFlight : Obligations.HostOperationsAreRefusedInFlight := by
  intro s op hi
  cases op with
  | configure | setborder | setpixel | loadframe | update => exact whenIdle_refused hi _

/-- Settles O29: the gate of R32, and behind it the length check of LOADFRAME. -/
theorem unconfiguredOperationsAreRefused : Obligations.UnconfiguredOperationsAreRefused := by
  intro s hi
  refine ⟨fun hc => ?_, fun raster hc hne => (whenConfigured_go _ hi hc).trans (if_neg hne)⟩
  have hgate := whenConfigured_refused hi hc
  exact ⟨fun _ => hgate _, fun _ _ _ => hgate _, fun _ => hgate _, fun _ => hgate _⟩

/-- Settles O43: the selected entry holds the decoded frame and its condition holds there, so O40 gives the step. -/
theorem stepRunsTheDecodedFrame : Obligations.StepRunsTheDecodedFrame := by
  intro s nbits w i hdec
  have hi := decodeTableWord_mem hdec
  obtain ⟨k, hk, hinstr, hsel⟩ := selectEntry_of_decoded s hi
  have hfetch : s.withFetchWord nbits w = s.selectEntry i := by rw [State.withFetchWord, hdec]
  rw [hfetch, hsel]
  refine ⟨k, hk, hinstr s.params, rfl, fun t hx => ?_⟩
  refine (stepRunsTheRomEntry _ rfl).1 t ?_ ((congrArg (exec · _) (hinstr s.params)).trans hx)
  rw [romEntry_cond]
  exact (congrArg (fun j => (condOf j).holds _) (hinstr s.params)).trans (condOf_decoded_holds hi fun h => if_pos h)

/-- Settles O59: after reset nothing is configured, nothing is in flight, and the default parameters are valid. -/
theorem resetHasTheInvariant : Obligations.ResetHasTheInvariant where
  params := by decide
  canonical := reset_memory_wf
  bounded := by simp [State.reset]
  geometry h := by cases h
  unconfigured _ := ⟨rfl, rfl, rfl, rfl, rfl, rfl⟩
  rest _ := ⟨rfl, rfl, .inl rfl, by decide, fun _ => rfl, fun h => (by cases h), fun h => (by cases h)⟩
  flight h := by cases h

/-- Settles O60: the values State.reset gives. -/
theorem resetValues : Obligations.ResetValues :=
  ⟨rfl, rfl, rfl, rfl, rfl, rfl, rfl, rfl, rfl, rfl⟩

end Sys2Proof.Machine

namespace Sys2Proof.Machine

/-! ## The store, the planes and the one caller (20_memory.md R60 to R76)

What SETPIXEL does inside its ranges, what each bit of a plane is, and what a step at rest runs are each said once; the statements
are read off them. -/

/-! ### The frame store (R60, R140) -/

/-- `validColor` as the three colour indices of R140. -/
theorem validColor_iff {c : Byte} : validColor c = true ↔ c = 0 ∨ c = 1 ∨ c = 2 := by
  simp [validColor, or_assoc]

/-- SETPIXEL past its gates and inside both its ranges is one write and OK (R140). -/
theorem exec_setpixel_inside {x y : Int} {c : Byte} {s : State} (hi : s.inflight = false) (hc : s.cfgv = true)
    (hv : validColor c = true) (hb : inBounds x y s = true) :
    exec (.setpixel x y c) s =
      .next (State.reply .ok { s with fs := s.fs.write (s.cellAddress x.toNat y.toNat) c }) :=
  (whenConfigured_go _ hi hc).trans (by simp [hv, hb])

/-! ### The plane buffers (R63, R166 to R168) -/

/-- The bit of plane A is 0 for BLACK alone (R166). -/
theorem encodeA_iff {v : Byte} : encodeA v = true ↔ v ≠ 1 := by
  simp [encodeA, Color.cell]

/-- The bit of plane B is 1 for ACCENT alone (R167). -/
theorem encodeB_iff {v : Byte} : encodeB v = true ↔ v = 2 := by
  simp [encodeB, Color.cell]

/-- Bit `7 - i` of byte `j` of a packed stream is 1 where the stream has bit `8 j + i` and that bit is 1 (R168). -/
theorem bitpack_bit_iff {n : Nat} {bit : Nat → Bool} {j i : Nat} (hj : j < (n + 7) / 8) (hi : i < 8) :
    ((bitpack n bit).getD j 0).getLsbD (7 - i) = true ↔ 8 * j + i < n ∧ bit (8 * j + i) = true := by
  rw [bitpack_bit bit hj hi, Bool.and_eq_true, decide_eq_true_iff]

/-- The bits of plane A (R63, R166, R168). -/
theorem planeA_bit_iff {s : State} {j i : Nat} (hj : j < (s.cellCount + 7) / 8) (hi : i < 8) :
    ((planeA s).getD j 0).getLsbD (7 - i) = true ↔ 8 * j + i < s.cellCount ∧ pixelStream s (8 * j + i) ≠ 1 := by
  rw [planeA, bitpack_bit_iff hj hi, encodeA_iff]

/-- The bits of plane B (R63, R167, R168). -/
theorem planeB_bit_iff {s : State} {j i : Nat} (hj : j < (s.cellCount + 7) / 8) (hi : i < 8) :
    ((planeB s).getD j 0).getLsbD (7 - i) = true ↔ 8 * j + i < s.cellCount ∧ pixelStream s (8 * j + i) = 2 := by
  rw [planeB, bitpack_bit_iff hj hi, encodeB_iff]

/-! ### The frame without data (R71) -/

/-- An instruction that is FRAME with an empty payload sends its command alone when that is granted (R71, R214). -/
theorem exec_bareFrame {i : Instr} {op : Byte} {payload : List Byte} {s : State} (hg : s.env.Grants 1) (hp : payload = [])
    (hx : exec i s = .next (sendFrame op payload s)) : exec i s = .next (s.afterEvents [.cmd op .done]) := by
  rw [hx, hp, sendFrame_bare (hg 0 Nat.one_pos)]

/-! ### The caller's next operation (R73, R201) -/

/-- A step at rest is the next operation on the caller's list and what follows it (R73). -/
theorem step_of_call {s : State} {op : HostOp} {rest : List HostOp} (hi : s.inflight = false) (hcalls : s.calls = op :: rest) :
    step s = thenState State.begun (exec op.toInstr { s with calls := rest }) := by
  rw [step, if_neg (by simp [hi]), runCall, hcalls]

/-- A step at rest with no operation to run (R320). -/
theorem step_of_no_call {s : State} (hi : s.inflight = false) (hcalls : s.calls = []) : step s = .next s := by
  rw [step, if_neg (by simp [hi]), runCall, hcalls]

/-- Of the host operations only an accepted UPDATE is in flight afterwards, and it stands at entry 0 (R34, R201). -/
theorem HostEffect.step_zero_of_inflight {s t : State} {op : HostOp} (h : HostEffect s op t) (hi : s.inflight = false)
    (ht : t.inflight = true) : t.step = 0 := by
  cases h with
  | accepted => rfl
  | replied | configured | bordered | painted | loaded => exact absurd (hi.symm.trans ht) (by decide)

/-! ## The statements of 20_memory.md -/

/-- Settles O23: SETPIXEL in its ranges is one write, and the rules of a write to a canonical store say the rest. -/
theorem setpixelWritesOneCell : Obligations.SetpixelWritesOneCell := by
  intro s x y c hi hc hwf hcolor hx hxw hy hyh
  have hb : inBounds x y s = true := inBounds_iff.mpr ⟨hx, hxw, hy, hyh⟩
  exact ⟨_, exec_setpixel_inside hi hc (validColor_iff.mpr hcolor) hb, read_write_same _ c hwf,
    fun _ ha => read_write_other c ha, write_wf _ c hwf, cellAddress_lt hb, rfl⟩

/-- Settles O32: the place of a stream bit in its plane, and what the two encoders make of a pixel. -/
theorem planeBitsAreThePixels : Obligations.PlaneBitsAreThePixels := by
  intro s t j i hpack hj hi
  obtain rfl : s.packed = t := Host.Outcome.next.inj hpack
  exact ⟨planeA_bit_iff hj hi, planeB_bit_iff hj hi⟩

/-- Settles O9: each RAM write is a frame with its plane as payload. -/
theorem ramWritesSendThePlanes : Obligations.RamWritesSendThePlanes := fun _ hg =>
  ⟨fun hne => sendsFrame_of_exec hg hne rfl, fun he => exec_bareFrame hg he rfl,
    fun hne => sendsFrame_of_exec hg hne rfl, fun he => exec_bareFrame hg he rfl⟩

/-- Settles O27: past both gates UPDATE accepts and packs, and PACK reads nothing that the acceptance writes. -/
theorem updateIsAccepted : Obligations.UpdateIsAccepted := by
  intro s wait hi hc
  have hA : planeA (s.accept wait) = planeA s := rfl
  have hB : planeB (s.accept wait) = planeB s := rfl
  calc exec (.update wait) s = .next (s.accept wait).packed := whenConfigured_go _ hi hc
    _ = _ := by rw [State.packed, hA, hB]; rfl

/-- Settles O44: what follows the caller's operation is nothing, or the move of an accepted UPDATE to its first entry. -/
theorem stepRunsTheNextCall : Obligations.StepRunsTheNextCall := by
  intro s hi
  refine ⟨fun op rest hcalls => ?_, step_of_no_call hi⟩
  rw [step_of_call hi hcalls]
  refine ⟨fun t hx ht => ?_, fun t hx ht => ?_, fun r hx => ?_⟩
  · rw [hx, thenState, begun_of_rest ht]
  · have hzero : t.step = 0 := (exec_hostOp_cases hx).2.step_zero_of_inflight hi ht
    rw [hx, thenState, begun_of_inflight ht, settled_of_step_zero hzero]
  · rw [hx, thenState]

/-- Settles O54: an entry whose condition holds answers a next state, and any other is passed over (O40). -/
theorem updateNeverSticks : Obligations.UpdateNeverSticks := by
  intro s hi
  obtain ⟨hperformed, hskipped⟩ := stepRunsTheRomEntry s hi
  cases hc : (romEntry s.params s.step).cond.holds s with
  | true =>
    obtain ⟨t, hx, -⟩ := exec_romEntry s.params s.step (s := s.entered) ((holds_entered s _).trans hc)
    exact ⟨_, hperformed t hc hx⟩
  | false => exact ⟨_, hskipped hc⟩

end Sys2Proof.Machine

namespace Sys2Proof.Machine

open Laws

/-! ## Frames as words (30_encoding.md R90 to R100)

The decoder is said once as an equivalence: what decodes is a command that stands for the instruction, and the payload split off
after it. Both directions of the encoding are read off it. -/

/-! ### The opcode table read backwards (R95, R96) -/

/-- The opcode of the frame in a row of the decoder's table is the row's key. -/
theorem opcodeOf_of_mem {op : OpcodeParams} {b : Byte} {i : Instr} (h : (b, i) ∈ opcodeMap op) : opcodeOf op i = some b := by
  simp only [opcodeMap, List.cons_append, List.nil_append] at h
  fin_cases h <;> rfl

/-- Frames told apart by their entry share their opcode (R95). -/
theorem opcodeOf_atEntry (op : OpcodeParams) (entry : Option RomIndex) (i : Instr) :
    opcodeOf op (atEntry entry i) = opcodeOf op i := by
  unfold atEntry
  split
  · split <;> rfl
  · split
    · rfl
    · split <;> rfl
  · rfl

/-- A byte that stands for a frame is the frame's opcode, and one of the 21 (R96). -/
theorem decodeOpcode_sound {op : OpcodeParams} {entry : Option RomIndex} {b : Byte} {i : Instr}
    (h : decodeOpcode op entry b = some i) : opcodeOf op i = some b ∧ b ∈ opcodes op := by
  obtain ⟨⟨c, j⟩, hfind, rfl⟩ := Option.map_eq_some_iff.mp h
  obtain rfl : c = b := by simpa using List.find?_some hfind
  have hrow : (c, j) ∈ opcodeMap op := List.mem_of_find?_eq_some hfind
  exact ⟨(opcodeOf_atEntry op entry j).trans (opcodeOf_of_mem hrow),
    (opcodeMap_perm op).mem_iff.mp (List.mem_map_of_mem (f := Prod.fst) hrow)⟩

/-- At each of its entries a frame is what its opcode decodes to (R95). -/
theorem decodeOpcode_atItsEntry : (i : Instr) → DecodesAtItsEntry.Statement i
  | .swreset => DecodesAtItsEntry.swreset
  | .analogBlock => DecodesAtItsEntry.analogBlock
  | .digitalBlock => DecodesAtItsEntry.digitalBlock
  | .gateSetting => DecodesAtItsEntry.gateSetting
  | .gateVolt => DecodesAtItsEntry.gateVolt
  | .sourceVolt => DecodesAtItsEntry.sourceVolt
  | .dummyLine => DecodesAtItsEntry.dummyLine
  | .gateWidth => DecodesAtItsEntry.gateWidth
  | .dataEntry => DecodesAtItsEntry.dataEntry
  | .vcom => DecodesAtItsEntry.vcom
  | .borderDefault => DecodesAtItsEntry.borderDefault
  | .borderMatch => DecodesAtItsEntry.borderMatch
  | .sourceVoltY => DecodesAtItsEntry.sourceVoltY
  | .sourceVoltR => DecodesAtItsEntry.sourceVoltR
  | .lutLoad => DecodesAtItsEntry.lutLoad
  | .ramXWindow => DecodesAtItsEntry.ramXWindow
  | .ramYWindow => DecodesAtItsEntry.ramYWindow
  | .ramXPtr => DecodesAtItsEntry.ramXPtr
  | .ramYPtr => DecodesAtItsEntry.ramYPtr
  | .ramWriteA => DecodesAtItsEntry.ramWriteA
  | .ramWriteB => DecodesAtItsEntry.ramWriteB
  | .updateCtrl => DecodesAtItsEntry.updateCtrl
  | .activate => DecodesAtItsEntry.activate
  | .deepSleep => DecodesAtItsEntry.deepSleep
  | .acquire => DecodesAtItsEntry.acquire
  | .rstline _ => DecodesAtItsEntry.rstline _
  | .delay _ => DecodesAtItsEntry.delay _
  | .waitbusy _ _ => DecodesAtItsEntry.waitbusy _ _
  | .frame _ _ => DecodesAtItsEntry.frame _ _
  | .configure _ _ _ _ _ _ _ => DecodesAtItsEntry.configure _ _ _ _ _ _ _
  | .setborder _ => DecodesAtItsEntry.setborder _
  | .setpixel _ _ _ => DecodesAtItsEntry.setpixel _ _ _
  | .loadframe _ => DecodesAtItsEntry.loadframe _
  | .update _ => DecodesAtItsEntry.update _
  | .pack => DecodesAtItsEntry.pack
  | .lutsel _ _ => DecodesAtItsEntry.lutsel _ _

/-- A frame that is the first of its opcode is read without the entry as with it (R95). -/
theorem atEntry_none {entry : Option RomIndex} {i : Instr} (hbm : atEntry entry i ≠ .borderMatch)
    (hy : atEntry entry i ≠ .sourceVoltY) (hr : atEntry entry i ≠ .sourceVoltR) : atEntry none i = atEntry entry i := by
  cases i
  case borderDefault =>
    have hentry : entry ≠ some 17 := fun h => hbm (if_pos h)
    exact (if_neg hentry).symm
  case sourceVolt =>
    have hentryY : entry ≠ some 18 := fun h => hy (if_pos h)
    have hentryR : entry ≠ some 19 := fun h => hr ((if_neg hentryY).trans (if_pos h))
    exact ((if_neg hentryY).trans (if_neg hentryR)).symm
  all_goals rfl

/-- A byte that stands for such a frame at an entry stands for it without the entry too (R95). -/
theorem decodeOpcode_none {op : OpcodeParams} {entry : Option RomIndex} {b : Byte} {i : Instr}
    (h : decodeOpcode op entry b = some i) (hbm : i ≠ .borderMatch) (hy : i ≠ .sourceVoltY) (hr : i ≠ .sourceVoltR) :
    decodeOpcode op none b = some i := by
  obtain ⟨r, hfind, rfl⟩ := Option.map_eq_some_iff.mp h
  exact Option.map_eq_some_iff.mpr ⟨r, hfind, atEntry_none hbm hy hr⟩

/-! ### The payload after a command (R90, R91, R100) -/

/-- Splitting the payload off drops nothing: the words are those of the frame and then the rest. -/
theorem frameWords_splitPayload {ws : List BusWord} (h : ∀ rest, ws ≠ .data [] :: rest) (b : Byte) :
    frameWords b (splitPayload ws).1 ++ (splitPayload ws).2 = .cmd b :: ws := by
  match ws, h with
  | [], _ => rfl
  | .cmd _ :: _, _ => rfl
  | .data [] :: rest, h => exact absurd rfl (h rest)
  | .data (_ :: _) :: _, _ => rfl

/-- The words of a frame, and what is not data after them, are the command and words that split into payload and rest. -/
theorem frameWords_append (b : Byte) (bs : List Byte) {rest : List BusWord} (hrest : ∀ xs, rest.head? ≠ some (.data xs)) :
    ∃ ws, frameWords b bs ++ rest = .cmd b :: ws ∧ (∀ tail, ws ≠ .data [] :: tail) ∧ splitPayload ws = (bs, rest) := by
  cases bs with
  | cons x xs => exact ⟨.data (x :: xs) :: rest, rfl, by simp, rfl⟩
  | nil =>
    match rest, hrest with
    | [], _ => exact ⟨[], rfl, by simp, rfl⟩
    | .cmd c :: tail, _ => exact ⟨.cmd c :: tail, rfl, by simp, rfl⟩
    | .data xs :: _, hrest => exact absurd rfl (hrest xs)

/-- A frame's payload has a length the frame allows, when no plane is empty (R91, R100, R261). -/
theorem payloadLengthOk_of_payloadOf {k : PayloadParams} {o : FrameOperands} {i : Instr} {bs : List Byte}
    (h : payloadOf k o i = some bs) (hA : i = .ramWriteA → o.pa ≠ []) (hB : i = .ramWriteB → o.pb ≠ []) :
    payloadLengthOk i bs.length = true := by
  cases i
  case borderMatch =>
    obtain ⟨c, -, rfl⟩ := Option.map_eq_some_iff.mp h
    rfl
  case ramWriteA =>
    cases h
    exact decide_eq_true (List.length_pos_of_ne_nil (hA rfl))
  case ramWriteB =>
    cases h
    exact decide_eq_true (List.length_pos_of_ne_nil (hB rfl))
  case lutLoad =>
    cases h
    simp [payloadLengthOk, LutTable.bytes]
  case sourceVolt | sourceVoltY | sourceVoltR =>
    cases h
    simp [payloadLengthOk]
  all_goals cases h
  all_goals rfl

/-! ### The decoder (R90, R99) -/

/-- What decodes: a command that stands for the instruction, and the payload split off after it, of a length it has. -/
theorem decode_eq_ok_iff {op : OpcodeParams} {entry : Option RomIndex} {words : List BusWord} {d : Decoded} :
    decode op entry words = .ok d ↔
      ∃ b ws, words = .cmd b :: ws ∧ (∀ rest, ws ≠ .data [] :: rest) ∧ decodeOpcode op entry b = some d.instr ∧
        payloadLengthOk d.instr d.payload.length = true ∧ splitPayload ws = (d.payload, d.rest) := by
  constructor
  · intro h
    unfold decode at h
    split at h
    · cases h
    · cases h
    · cases h
    · rename_i b ws hne
      split at h
      · cases h
      · rename_i i hi
        split at h
        · rename_i hlen
          cases h
          exact ⟨b, ws, rfl, hne, hi, hlen, rfl⟩
        · cases h
  · rintro ⟨b, ws, rfl, hne, hi, hlen, hsplit⟩
    rw [decode, hi, hsplit]
    · exact if_pos hlen
    · exact hne

/-- The words of an instruction are those of its opcode and its payload (R90). -/
theorem encode_eq_some {p : Params} {o : FrameOperands} {i : Instr} {ws : List BusWord} (h : encode p o i = some ws) :
    ∃ b bs, opcodeOf p.op i = some b ∧ payloadOf p.k o i = some bs ∧ ws = frameWords b bs := by
  unfold encode at h
  split at h
  · rename_i b bs hb hbs
    exact ⟨b, bs, hb, hbs, (Option.some.inj h).symm⟩
  · cases h

/-- The words of a frame decode to it when its opcode does (R90, R100). -/
theorem decode_frameWords {op : OpcodeParams} {entry : Option RomIndex} {b : Byte} {i : Instr} {bs : List Byte}
    {rest : List BusWord} (hi : decodeOpcode op entry b = some i) (hlen : payloadLengthOk i bs.length = true)
    (hrest : ∀ xs, rest.head? ≠ some (.data xs)) : decode op entry (frameWords b bs ++ rest) = .ok ⟨i, bs, rest⟩ := by
  obtain ⟨ws, hws, hne, hsplit⟩ := frameWords_append b bs hrest
  exact decode_eq_ok_iff.mpr ⟨b, ws, hws, hne, hi, hlen, hsplit⟩

/-! ### A frame as FRAME (R214, R90) -/

/-- The conditions of R252, R253 and R265, and a pattern that BORDER_MATCH sends (R251), are the condition of the frame's entry. -/
theorem condOf_frame_holds {s : State} {i : Instr} {b : Byte} {bs : List Byte} (hop : opcodeOf s.params.op i = some b)
    (hpl : payloadOf s.params.k s.frameOperands i = some bs) (hY : i = .sourceVoltY → s.regs.profile = .yellow)
    (hR : i = .sourceVoltR → s.regs.profile = .red ∧ (s.regs.w, s.regs.h) = s.params.redOverrideRes)
    (hD : i = .deepSleep → s.wait = true) : (condOf i).holds s = true := by
  cases i
  case borderMatch =>
    obtain ⟨c, hc, -⟩ := Option.map_eq_some_iff.mp hpl
    exact Option.isSome_of_mem hc
  case sourceVoltY => exact beq_iff_eq.mpr (hY rfl)
  case sourceVoltR => simpa [condOf, Condition.holds, redAtOverrideRes] using hR rfl
  case deepSleep => exact hD rfl
  all_goals cases hop
  all_goals rfl

/-- What an instruction leaves when it answers a next state. -/
theorem once_of_exec {i : Instr} {s t : State} (h : exec i s = .next t) : once i s = t := by
  rw [once, h]

/-- An instruction that is FRAME, with the command due and with the data due, emits both events when it is performed whole (R214). -/
theorem perform_of_exec {i : Instr} {s : State} {b : Byte} {bs : List Byte} (hb : s.beat = .first)
    (hg : s.env.Grants (sentFrame b bs).length) (hcmd : exec i s = .next (sendFrame b bs s))
    (hdata : exec i (s.afterEvents [.cmd b .done]).secondDue =
      .next (sendFrame b bs (s.afterEvents [.cmd b .done]).secondDue)) :
    perform i s = s.afterEvents (sentFrame b bs) := by
  cases bs with
  | nil =>
    have hone : once i s = s.afterEvents [.cmd b .done] :=
      (once_of_exec hcmd).trans (sendFrame_bare (hg 0 Nat.one_pos))
    rw [perform, hone, if_neg (by simp [State.afterEvents])]
    rfl
  | cons x xs =>
    have hne : x :: xs ≠ [] := List.cons_ne_nil x xs
    have hfirst : once i s = (s.afterEvents [.cmd b .done]).secondDue :=
      (once_of_exec hcmd).trans (sendFrame_command hne hb (hg 0 Nat.two_pos))
    have hgranted : ((s.env.drop 1).answer 0).fails = false := by
      rw [answer_drop]
      exact hg 1 Nat.one_lt_two
    rw [perform, hfirst, if_pos (secondDue_beat _), once_of_exec hdata, sendFrame_data hne rfl hgranted]
    simp [State.afterEvents, State.secondDue, sentFrame]

/-! ### Byte splits within the bounds of the geometry (R10, R22) -/

@[simp] theorem lo8_toNat (v : Nat) : (lo8 v).toNat = v % 256 := by
  simp [lo8]

theorem hi8_toNat {v : Nat} (h : v ≤ 65535) : (hi8 v).toNat = v / 256 := by
  rw [hi8, BitVec.toNat_ofNat]
  omega

/-! ## The statements of 30_encoding.md -/

/-- Settles O2: the opcode decodes to the frame at its entry, and the words after it split into the payload and the rest. -/
theorem decodeOfEncodeIsTheFrame : Obligations.DecodeOfEncodeIsTheFrame := by
  intro p o i k ws rest hd hk henc hA hB hrest
  obtain ⟨b, bs, hop, hpl, rfl⟩ := encode_eq_some henc
  have hi : decodeOpcode p.op (some k) b = some i := decodeOpcode_atItsEntry i p.op b k hd hop hk
  have hlen : payloadLengthOk i bs.length = true := payloadLengthOk_of_payloadOf hpl hA hB
  exact ⟨bs, hpl, decode_frameWords hi hlen hrest,
    fun hbm hy hr => decode_frameWords (decodeOpcode_none hi hbm hy hr) hlen hrest⟩

/-- Settles O3: the decoder's equivalence, its command byte looked up in the table and its payload put back. -/
theorem decodedWordsAreOneFrame : Obligations.DecodedWordsAreOneFrame := by
  intro op entry words d h
  obtain ⟨b, ws, rfl, hne, hi, hlen, hsplit⟩ := decode_eq_ok_iff.mp h
  obtain ⟨hop, hmem⟩ := decodeOpcode_sound hi
  have hwords := frameWords_splitPayload hne b
  rw [hsplit] at hwords
  exact ⟨b, hwords.symm, hop, hmem, hlen⟩

/-- Settles O13: a frame whose condition holds sends what FRAME sends. -/
theorem everyFrameIsAnInstanceOfFrame : Obligations.EveryFrameIsAnInstanceOfFrame :=
  fun _ _ _ _ hop hpl hY hR hD => exec_eq_sendFrame hop hpl (condOf_frame_holds hop hpl hY hR hD)

/-- Settles O15: the command leaves everything a frame is assembled from, so O13 holds again when the data is due. -/
theorem performedFrameSendsBothEvents : Obligations.PerformedFrameSendsBothEvents := by
  intro s b bs hb hg
  refine ⟨perform_of_exec hb hg rfl rfl, fun i hop hpl hY hR hD => perform_of_exec hb hg ?_ ?_⟩
  · exact everyFrameIsAnInstanceOfFrame s i b bs hop hpl hY hR hD
  · exact everyFrameIsAnInstanceOfFrame (s.afterEvents [.cmd b .done]).secondDue i b bs hop hpl hY hR hD

/-- Settles O1: the decoder computes. -/
theorem someFrameWordsDecode : Obligations.SomeFrameWordsDecode := ⟨rfl, rfl, rfl, rfl, rfl⟩

/-- Settles O4: a byte that stands for a frame is one of the 21. -/
theorem unlistedOpcodeIsRejected : Obligations.UnlistedOpcodeIsRejected := by
  intro op entry b ws hb hne
  have hnone : decodeOpcode op entry b = none :=
    Option.eq_none_iff_forall_ne_some.mpr fun _ hi => hb (decodeOpcode_sound hi).2
  rw [decode, hnone]
  exact hne

/-- Settles O7: the bytes of the geometry within the bounds of R22. -/
theorem geometryFramesSendTheGeometry : Obligations.GeometryFramesSendTheGeometry := by
  intro s hg hcols hcols' hrows hrows'
  refine ⟨⟨lo8 s.regs.rows, hi8 s.regs.rows, lo8_toNat _, hi8_toNat hrows', ?_⟩,
    ⟨BitVec.ofNat 8 (s.regs.cols / 8 - 1), ?_, ?_⟩,
    ⟨lo8 (s.regs.rows - 1), hi8 (s.regs.rows - 1), lo8_toNat _, hi8_toNat (by omega), ?_⟩⟩
  · exact sendsFrame_of_exec hg (by simp) rfl
  · rw [BitVec.toNat_ofNat]
    omega
  · exact sendsFrame_of_exec hg (by simp) rfl
  · exact sendsFrame_of_exec hg (by simp) rfl

end Sys2Proof.Machine

namespace Sys2Proof.Machine

/-! ## CONFIGURE and SETBORDER (40_configure.md R120 to R126)

Each of the three tests of CONFIGURE is said once as a condition on its operand; past the gate of R34, CONFIGURE then has one rule for
each way its tests can end. -/

/-! ### The tests of CONFIGURE (R120 to R122) -/

/-- Accepted parameters repeat no resolution in `RES_TABLE` (R36, D11). -/
theorem resTable_keys_nodup {p : Params} (hp : p.valid = true) : (p.resTable.map fun e => (e.w, e.h)).Nodup := by
  simp only [Params.valid, resTableValid, Bool.and_eq_true, decide_eq_true_iff] at hp
  obtain ⟨⟨⟨⟨⟨-, hkeys⟩, -⟩, -⟩, -⟩, -⟩ := hp
  exact hkeys

/-- A resolution without an entry is not found (R121). -/
theorem romRes_eq_none_iff {p : Params} {w h : Nat} : romRes p w h = none ↔ ∀ e ∈ p.resTable, ¬(e.w = w ∧ e.h = h) := by
  simp [romRes]

/-- A resolution with an entry is found (R121). -/
theorem exists_romRes {p : Params} {w h : Nat} (he : ∃ e ∈ p.resTable, e.w = w ∧ e.h = h) : ∃ e, romRes p w h = some e := by
  obtain ⟨e, hmem, hkey⟩ := he
  exact Option.ne_none_iff_exists'.mp fun hnone => romRes_eq_none_iff.mp hnone e hmem hkey

/-- With distinct keys every entry is the one found under its own resolution (R121). -/
theorem romRes_of_mem {p : Params} {e : ResEntry} (hp : p.valid = true) (he : e ∈ p.resTable) : romRes p e.w e.h = some e := by
  obtain ⟨f, hf⟩ := exists_romRes ⟨e, he, rfl, rfl⟩
  have hmem : f ∈ p.resTable := List.mem_of_find?_eq_some hf
  obtain ⟨hw, hh⟩ : f.w = e.w ∧ f.h = e.h := by simpa using List.find?_some hf
  have hfe : f = e := List.inj_on_of_nodup_map (resTable_keys_nodup hp) hmem he (Prod.ext hw hh)
  rw [hf, hfe]

/-- The three names a caller can request, each with its profile (R98 (b), D13). -/
theorem profileOfName_eq_some {name : String} {prof : Profile}
    (h : (name, prof) ∈ [("black", Profile.black), ("red", Profile.red), ("yellow", Profile.yellow)]) :
    profileOfName name = some prof := by
  simp only [List.mem_cons, Prod.mk.injEq, List.not_mem_nil, or_false] at h
  obtain ⟨rfl, rfl⟩ | ⟨rfl, rfl⟩ | ⟨rfl, rfl⟩ := h <;> rfl

/-- Any other name is no profile (R98 (b), R281). -/
theorem profileOfName_eq_none_iff {name : String} : profileOfName name = none ↔ name ∉ ["black", "red", "yellow"] := by
  unfold profileOfName
  split_ifs <;> simp [*]

/-- An absent record contradicts nothing, a present one must have the requested resolution (R122). -/
theorem identityMatches_iff {w h : Nat} {id : Option IdentityRecord} :
    identityMatches w h id = true ↔ ∀ r, id = some r → r.width = w ∧ r.height = h := by
  cases id <;> simp [identityMatches]

/-- `borderAfter` operand by operand (R98 (e), R126). -/
theorem borderAfter_eq (old : Color) (c : BitVec 2) :
    borderAfter old c = if c = 0 then .white else if c = 1 then .black else if c = 2 then .accent else old := by
  unfold borderAfter colorOfOperand
  split_ifs <;> rfl

/-! ### The four ends of CONFIGURE (R120, R281, R292) -/

section
variable {s : State} {w h : Nat} {name : String} {e : ResEntry} {prof : Profile}
  (c : BitVec 2) (fh fv : Bool)

/-- The first test: the resolution is looked up before the name and the record are read. -/
theorem exec_configure_of_no_resolution (id : Option IdentityRecord) (hi : s.inflight = false) (he : romRes s.params w h = none) :
    exec (.configure w h name c fh fv id) s = .next (s.reply (.unsupportedResolution w h)) :=
  (whenIdle_go _ hi).trans (by rw [he])

/-- The second test: the name of the profile. -/
theorem exec_configure_of_no_profile (id : Option IdentityRecord) (hi : s.inflight = false) (he : romRes s.params w h = some e)
    (hp : profileOfName name = none) :
    exec (.configure w h name c fh fv id) s = .next (s.reply (.unsupportedProfile name)) :=
  (whenIdle_go _ hi).trans (by rw [he, hp])

/-- The third test: the identity record. -/
theorem exec_configure_of_mismatch {r : IdentityRecord} (hi : s.inflight = false) (he : romRes s.params w h = some e)
    (hp : profileOfName name = some prof) (hm : ¬identityMatches w h (some r) = true) :
    exec (.configure w h name c fh fv (some r)) s = .next (s.reply (.identityMismatch r.width r.height)) :=
  (whenIdle_go _ hi).trans (by rw [he, hp]; exact if_neg hm)

/-- Past all three tests CONFIGURE writes what it found and replies OK. -/
theorem exec_configure_of_supported {id : Option IdentityRecord} (hi : s.inflight = false) (he : romRes s.params w h = some e)
    (hp : profileOfName name = some prof) (hm : identityMatches w h id = true) :
    exec (.configure w h name c fh fv id) s = .next ((s.configured e prof c fh fv id).reply .ok) := by
  refine (whenIdle_go _ hi).trans ?_
  rw [he, hp]
  cases id with
  | none => rfl
  | some r => exact if_pos hm

end

/-! ## The statements of 40_configure.md -/

/-- Settles O20: the three tests pass, and what CONFIGURE then writes is the register file with the border operand resolved. -/
theorem configureWritesTheRegisterFile : Obligations.ConfigureWritesTheRegisterFile := by
  intro s e name prof c fh fv id hi hp he hname hid
  refine ⟨?_, fun _ => rfl⟩
  rw [exec_configure_of_supported c fh fv hi (romRes_of_mem hp he) (profileOfName_eq_some hname) (identityMatches_iff.mpr hid),
    ← borderAfter_eq]
  rfl

/-- Settles O21: one clause for each test that can fail first. -/
theorem configureRejectionsChangeNothing : Obligations.ConfigureRejectionsChangeNothing := by
  intro s w h name c fh fv id hi
  refine ⟨fun hres => ?_, fun hres hname => ?_, fun r hres hname hid hne => ?_⟩
  · exact exec_configure_of_no_resolution c fh fv id hi (romRes_eq_none_iff.mpr hres)
  · obtain ⟨e, he⟩ := exists_romRes hres
    exact exec_configure_of_no_profile c fh fv id hi he (profileOfName_eq_none_iff.mpr hname)
  · obtain ⟨e, he⟩ := exists_romRes hres
    obtain ⟨prof, hprof⟩ := Option.ne_none_iff_exists'.mp fun hnone => profileOfName_eq_none_iff.mp hnone hname
    have hm : ¬identityMatches w h (some r) = true := fun hm => hne (identityMatches_iff.mp hm r rfl)
    rw [hid]
    exact exec_configure_of_mismatch c fh fv hi he hprof hm

/-- Settles O22: past both gates SETBORDER writes `borderAfter`, whose value the statement spells out. -/
theorem setborderWritesTheBorder : Obligations.SetborderWritesTheBorder := by
  intro s c hi hc
  rw [← borderAfter_eq]
  exact whenConfigured_go _ hi hc

end Sys2Proof.Machine

namespace Sys2Proof.Machine

/-! ## SETPIXEL and LOADFRAME (41_framebuffer.md R140 to R143)

The loop of R143 is a store operation of its own, with a rule for what it keeps and one for what each cell then reads as; a canonical
store is determined by its reads, so the loop over all `W * H` cells is the wholesale store that LOADFRAME puts in place. -/

/-! ### The loop of single-cell writes (R143) -/

/-- The store after writing `f i` at `i` for every `i < n` in turn. -/
def Memory.writeFirst (f : Nat → Byte) (n : Nat) (m : Memory) : Memory :=
  (List.range n).foldl (fun m i => Memory.write m i (f i)) m

@[simp] theorem writeFirst_zero (f : Nat → Byte) (m : Memory) : Memory.writeFirst f 0 m = m := rfl

theorem writeFirst_succ (f : Nat → Byte) (n : Nat) (m : Memory) :
    Memory.writeFirst f (n + 1) m = Memory.write (Memory.writeFirst f n m) n (f n) := by
  rw [Memory.writeFirst, List.range_succ, List.foldl_append]
  rfl

theorem writeFirst_wf {m : Memory} (f : Nat → Byte) (n : Nat) (h : Memory.wf m) : Memory.wf (Memory.writeFirst f n m) := by
  induction n with
  | zero => exact h
  | succ n ih =>
    rw [writeFirst_succ]
    exact write_wf _ _ ih

/-- Each address of the loop reads as what was written there, every other one as before. -/
theorem read_writeFirst {m : Memory} (f : Nat → Byte) (n a : Nat) (h : Memory.wf m) :
    Memory.read (Memory.writeFirst f n m) a = if a < n then f a else Memory.read m a := by
  induction n with
  | zero => rfl
  | succ n ih =>
    rw [writeFirst_succ]
    by_cases ha : a = n
    · subst ha
      rw [read_write_same a (f a) (writeFirst_wf f a h), if_pos a.lt_succ_self]
    · have hlt : a < n + 1 ↔ a < n := by omega
      rw [read_write_other _ ha, ih, if_congr hlt rfl rfl]

/-- An address that is not listed reads as WHITE (R39, R123). -/
theorem read_of_unlisted {a : Nat} {m : Memory} (h : ∀ c ∈ m, c.1 ≠ a) : Memory.read m a = unlistedCell := by
  induction m with
  | nil => rfl
  | cons c m ih =>
    obtain ⟨hc, hm⟩ := List.forall_mem_cons.mp h
    rw [Memory.read, if_neg hc.symm, ih hm]

/-- A store loaded from address 0 on reads as the raster. -/
theorem read_ofCells_zero (raster : List Byte) (i : Nat) :
    Memory.read (Memory.ofCells 0 raster) i = raster.getD i unlistedCell := by
  simpa using read_ofCells 0 i raster

/-- Loading a raster wholesale is writing its elements in turn, over any canonical store that lists no address past it. -/
theorem ofCells_eq_writeFirst {m : Memory} (raster : List Byte) (h : Memory.wf m) (hb : ∀ c ∈ m, c.1 < raster.length) :
    Memory.ofCells 0 raster = Memory.writeFirst (raster.getD · unlistedCell) raster.length m := by
  refine wf_ext (ofCells_wf 0 raster) (writeFirst_wf _ _ h) fun a => ?_
  rw [read_ofCells_zero, read_writeFirst _ _ a h]
  split
  · rfl
  next ha =>
    have hunlisted : ∀ c ∈ m, c.1 ≠ a := fun c hc heq => ha (heq ▸ hb c hc)
    rw [read_of_unlisted hunlisted, List.getD_eq_default _ _ (Nat.le_of_not_lt ha)]

/-! ### What SETPIXEL and LOADFRAME answer (R140, R143, R292) -/

/-- The first test of SETPIXEL: a colour that is none of the three is passed over before the coordinates are read. -/
theorem exec_setpixel_of_invalid_color {c : Byte} {s : State} (x y : Int) (hi : s.inflight = false) (hc : s.cfgv = true)
    (hv : ¬validColor c = true) : exec (.setpixel x y c) s = .next (s.reply .ok) :=
  (whenConfigured_go _ hi hc).trans (by simp [hv])

/-- The second test of SETPIXEL: the coordinates. -/
theorem exec_setpixel_outside {x y : Int} {c : Byte} {s : State} (hi : s.inflight = false) (hc : s.cfgv = true)
    (hv : validColor c = true) (hb : ¬inBounds x y s = true) :
    exec (.setpixel x y c) s = .next (s.reply (.boundsFault x y)) :=
  (whenConfigured_go _ hi hc).trans (by simp [hv, hb])

/-- LOADFRAME past its gates, of a raster of the right length, puts the raster in place of the store and replies OK. -/
theorem exec_loadframe_of_length {raster : List Byte} {s : State} (hi : s.inflight = false) (hc : s.cfgv = true)
    (hl : raster.length = s.cellCount) :
    exec (.loadframe raster) s = .next (State.reply .ok { s with fs := Memory.ofCells 0 raster }) :=
  (whenConfigured_go _ hi hc).trans (if_pos hl)

/-! ## The statements of 41_framebuffer.md -/

/-- Settles O25: LOADFRAME puts the raster in place of the store, which then reads as the raster, and as WHITE past its end. -/
theorem loadframeReplacesEveryCell : Obligations.LoadframeReplacesEveryCell := by
  intro s raster hi hc hlen
  refine ⟨_, exec_loadframe_of_length hi hc hlen, fun i hlt => ?_, fun a hle => ?_, ofCells_wf 0 raster, rfl⟩
  · have hlt' : i < raster.length := hlen ▸ hlt
    calc some (Memory.read (Memory.ofCells 0 raster) i) = some (raster.getD i unlistedCell) :=
          congrArg some (read_ofCells_zero raster i)
      _ = raster[i]? := by rw [List.getD_eq_getElem _ _ hlt', List.getElem?_eq_getElem hlt']
  · exact (read_ofCells_zero raster a).trans (List.getD_eq_default _ _ (hlen ▸ hle))

/-- Settles O26: the wholesale store and the store after the loop read alike at every address. -/
theorem loadframeIsTheLoopOfWrites : Obligations.LoadframeIsTheLoopOfWrites := by
  intro s raster hi hc hlen hwf hbounded
  refine ⟨_, exec_loadframe_of_length hi hc hlen, ?_⟩
  rw [← hlen] at hbounded ⊢
  exact ofCells_eq_writeFirst raster hwf hbounded

/-- Settles O24: one clause for each test of SETPIXEL that can fail first. -/
theorem setpixelOutsideItsRangesChangesNothing : Obligations.SetpixelOutsideItsRangesChangesNothing := by
  intro s x y c hi hc
  refine ⟨fun hcolor => ?_, fun hcolor hout => ?_⟩
  · exact exec_setpixel_of_invalid_color x y hi hc (mt validColor_iff.mp hcolor)
  · exact exec_setpixel_outside hi hc (validColor_iff.mpr hcolor) (mt inBounds_iff.mp hout)

end Sys2Proof.Machine

namespace Sys2Proof.Machine

/-! ## The bit-plane packer (42_plane_packer.md R160 to R170)

Stages 1 to 4 read the cells through one index map, `streamCell`, which knows the geometry and the flags alone; `streamPos` says where
in the stream a logical pixel stands. What PACK depends on, and that no cell is lost, are read off these two maps. -/

/-! ### The index maps of the orientation stages (R161 to R165) -/

/-- Row or column `i` of `n`, counted from the other end where the flip is on (R161, R162). -/
def flipIndex (on : Bool) (n i : Nat) : Nat := if on then n - 1 - i else i

/-- The address of the cell at position `k` of the stream (R165). -/
def streamCell (w h : Nat) (rot : Rot) (hflip vflip : Bool) (k : Nat) : Nat :=
  match rot with
  | .rot0 => flipIndex vflip h (k / w) * w + flipIndex hflip w (k % w)
  | .rotM90 => flipIndex vflip h (flipIndex true h (k % h)) * w + flipIndex hflip w (k / h)

/-- The position in the stream of the logical pixel in row `y` and column `x` (R165). -/
def streamPos (w h : Nat) (rot : Rot) (hflip vflip : Bool) (x y : Nat) : Nat :=
  match rot with
  | .rot0 => flipIndex vflip h y * w + flipIndex hflip w x
  | .rotM90 => flipIndex hflip w x * h + flipIndex true h (flipIndex vflip h y)

/-- The pixel stream is the store read through the index map. -/
theorem pixelStream_eq_read (s : State) (k : Nat) :
    pixelStream s k = s.fs.read (streamCell s.regs.w s.regs.h s.regs.rot s.regs.hflip s.regs.vflip k) := by
  rw [pixelStream, orient]
  cases s.regs.rot <;> cases s.regs.hflip <;> cases s.regs.vflip <;> rfl

theorem flipIndex_lt {n i : Nat} (on : Bool) (h : i < n) : flipIndex on n i < n := by
  unfold flipIndex
  split <;> omega

/-- A flip undoes itself. -/
theorem flipIndex_flipIndex {n i : Nat} (on : Bool) (h : i < n) : flipIndex on n (flipIndex on n i) = i := by
  unfold flipIndex
  split <;> omega

/-- Row `a`, column `b` of `m` rows of `n` columns stands below `m * n` in row-major order (R61). -/
theorem rowMajor_lt {m n a b : Nat} (ha : a < m) (hb : b < n) : a * n + b < m * n := by
  rw [Nat.mul_comm a]
  exact Nat.mul_add_lt_mul_of_lt_of_lt ha hb

/-- Row `a`, column `b` of rows of `n` columns is found again by dividing by `n`. -/
theorem rowMajor_div {n b : Nat} (a : Nat) (hb : b < n) : (a * n + b) / n = a := by
  rw [Nat.mul_comm, Nat.mul_add_div (Nat.zero_lt_of_lt hb), Nat.div_eq_of_lt hb, Nat.add_zero]

section
variable {w h : Nat} (rot : Rot) (hflip vflip : Bool)

/-- Every position of the stream holds a cell of the store. -/
theorem streamCell_lt {k : Nat} (hk : k < w * h) : streamCell w h rot hflip vflip k < w * h := by
  have hw : 0 < w := Nat.pos_of_lt_mul_right hk
  have hh : 0 < h := Nat.pos_of_lt_mul_left hk
  rw [Nat.mul_comm w]
  cases rot with
  | rot0 =>
    have hrow : k / w < h := Nat.div_lt_of_lt_mul hk
    exact rowMajor_lt (flipIndex_lt _ hrow) (flipIndex_lt _ (Nat.mod_lt k hw))
  | rotM90 =>
    have hcol : k / h < w := Nat.div_lt_of_lt_mul (Nat.mul_comm w h ▸ hk)
    exact rowMajor_lt (flipIndex_lt _ (flipIndex_lt _ (Nat.mod_lt k hh))) (flipIndex_lt _ hcol)

variable {x y : Nat} (hx : x < w) (hy : y < h)
include hx hy

/-- Every logical pixel has its position within the stream. -/
theorem streamPos_lt : streamPos w h rot hflip vflip x y < w * h := by
  have hcol := flipIndex_lt hflip hx
  have hrow := flipIndex_lt vflip hy
  cases rot with
  | rot0 => exact Nat.mul_comm w h ▸ rowMajor_lt hrow hcol
  | rotM90 => exact rowMajor_lt hcol (flipIndex_lt true hrow)

/-- The position of the logical pixel (x, y) holds the cell at `y * W + x` (R165). -/
theorem streamCell_streamPos :
    streamCell w h rot hflip vflip (streamPos w h rot hflip vflip x y) = y * w + x := by
  have hcol := flipIndex_lt hflip hx
  have hrow := flipIndex_lt vflip hy
  cases rot with
  | rot0 =>
    simp only [streamCell, streamPos, rowMajor_div _ hcol, Nat.mul_add_mod_of_lt hcol, flipIndex_flipIndex _ hx, flipIndex_flipIndex _ hy]
  | rotM90 =>
    have hturned := flipIndex_lt true hrow
    simp only [streamCell, streamPos, rowMajor_div _ hturned, Nat.mul_add_mod_of_lt hturned, flipIndex_flipIndex _ hrow,
      flipIndex_flipIndex _ hx, flipIndex_flipIndex _ hy]

end

/-- Every cell of the store stands at some position of the stream. -/
theorem exists_streamCell_eq {w h a : Nat} (rot : Rot) (hflip vflip : Bool) (ha : a < w * h) :
    ∃ k, k < w * h ∧ streamCell w h rot hflip vflip k = a := by
  have hx : a % w < w := Nat.mod_lt a (Nat.pos_of_lt_mul_right ha)
  have hy : a / w < h := Nat.div_lt_of_lt_mul ha
  exact ⟨streamPos w h rot hflip vflip (a % w) (a / w), streamPos_lt rot hflip vflip hx hy,
    (streamCell_streamPos rot hflip vflip hx hy).trans (Nat.div_add_mod' a w)⟩

/-! ### Packing streams of equal bits (R168, R170) -/

/-- A plane byte depends on its eight bits alone. -/
theorem packByte_congr {f g : Nat → Bool} (h : ∀ i, i < 8 → f i = g i) : packByte f = packByte g := by
  unfold packByte
  rw [List.map_congr_left fun i hi => by rw [h i (List.mem_range.mp hi)]]

/-- The first `r` bits of a plane byte are its `r` most significant ones (R168). -/
theorem packByte_lt {r : Nat} (hr : r ≤ 8) : packByte (fun i => decide (i < r)) = 0xFF#8 <<< (8 - r) := by
  have key : ∀ r : Fin 9, packByte (fun i => decide (i < r.val)) = 0xFF#8 <<< (8 - r.val) := by decide
  exact key ⟨r, Nat.lt_succ_of_le hr⟩

/-- Byte `j` of a packed stream of ones holds as many ones as the stream has from `8 j` on. -/
theorem packByte_ones {n j r : Nat} (hr : r ≤ 8) (h : ∀ i, i < 8 → (8 * j + i < n ↔ i < r)) :
    packByte (fun i => decide (8 * j + i < n) && true) = 0xFF#8 <<< (8 - r) := by
  rw [← packByte_lt hr]
  exact packByte_congr fun i hi => by rw [Bool.and_true, decide_eq_decide.mpr (h i hi)]

/-- A stream of zeros packs to zeros. -/
theorem bitpack_zeros (n : Nat) : bitpack n (fun _ => false) = List.replicate ((n + 7) / 8) 0x00 := by
  refine List.eq_replicate_iff.mpr ⟨bitpack_length n _, fun b hb => ?_⟩
  obtain ⟨j, -, rfl⟩ := List.mem_map.mp hb
  exact (packByte_congr fun i _ => Bool.and_false _).trans (packByte_lt (Nat.zero_le 8))

/-- The whole bytes of a stream of ones. -/
theorem map_packByte_ones (n : Nat) :
    (List.range (n / 8)).map (fun j => packByte (fun i => decide (8 * j + i < n) && true)) = List.replicate (n / 8) 0xFF := by
  refine List.eq_replicate_iff.mpr ⟨by simp, fun b hb => ?_⟩
  obtain ⟨j, hj, rfl⟩ := List.mem_map.mp hb
  have hj' : j < n / 8 := List.mem_range.mp hj
  exact packByte_ones (le_refl 8) fun i hi => by omega

/-- A stream of ones that fills its bytes packs to ones (R170). -/
theorem bitpack_ones_of_whole {n : Nat} (h : n % 8 = 0) : bitpack n (fun _ => true) = List.replicate (n / 8) 0xFF := by
  have hlen : (n + 7) / 8 = n / 8 := by omega
  rw [bitpack, hlen, map_packByte_ones]

/-- A stream of ones that does not fill its last byte packs to ones with pad bits 0 (R168, R170). -/
theorem bitpack_ones_of_rest {n : Nat} (h : n % 8 ≠ 0) :
    bitpack n (fun _ => true) = List.replicate (n / 8) 0xFF ++ [0xFF#8 <<< (8 - n % 8)] := by
  have hlen : (n + 7) / 8 = n / 8 + 1 := by omega
  have hlast : packByte (fun i => decide (8 * (n / 8) + i < n) && true) = 0xFF#8 <<< (8 - n % 8) :=
    packByte_ones (by omega) fun i hi => by omega
  rw [bitpack, hlen, List.range_succ, List.map_append, map_packByte_ones, List.map_singleton, hlast]

/-! ### What the planes depend on (R169) -/

/-- A pixel of a uniform store is the one colour of its cells. -/
theorem pixelStream_of_uniform {s : State} {v : Byte} (h : ∀ a, a < s.regs.w * s.regs.h → s.fs.read a = v) {k : Nat}
    (hk : k < s.cellCount) : pixelStream s k = v :=
  (pixelStream_eq_read s k).trans (h _ (streamCell_lt _ _ _ hk))

theorem planeA_of_uniform {s : State} {v : Byte} (h : ∀ a, a < s.regs.w * s.regs.h → s.fs.read a = v) :
    planeA s = bitpack s.cellCount (fun _ => encodeA v) :=
  bitpack_congr fun _ hk => congrArg encodeA (pixelStream_of_uniform h hk)

theorem planeB_of_uniform {s : State} {v : Byte} (h : ∀ a, a < s.regs.w * s.regs.h → s.fs.read a = v) :
    planeB s = bitpack s.cellCount (fun _ => encodeB v) :=
  bitpack_congr fun _ hk => congrArg encodeB (pixelStream_of_uniform h hk)

/-! ## The statements of 42_plane_packer.md -/

/-- Settles O33: the positions and cells of the statement are `streamPos` and `streamCell`, written out for each rotation. -/
theorem pixelStreamClosedForm : Obligations.PixelStreamClosedForm := by
  refine fun s => ⟨fun x y hx hy => ?_, fun k _ => ?_⟩
  · calc _ = pixelStream s (streamPos s.regs.w s.regs.h s.regs.rot s.regs.hflip s.regs.vflip x y) := by
          cases s.regs.rot <;> rfl
      _ = s.fs.read (y * s.regs.w + x) := by rw [pixelStream_eq_read, streamCell_streamPos _ _ _ hx hy]
  · rw [pixelStream_eq_read]
    cases s.regs.rot <;> rfl

/-- Settles O34: the map is `streamCell`. -/
theorem orientationIsAPermutation : Obligations.OrientationIsAPermutation :=
  ⟨streamCell, fun _ _ rot hflip vflip =>
    ⟨fun _ => streamCell_lt rot hflip vflip, fun _ => exists_streamCell_eq rot hflip vflip⟩,
    fun s k _ => pixelStream_eq_read s k⟩

/-- Settles O37: both streams of a uniform store are constant, and constant streams pack to constant bytes. -/
theorem uniformStoresPackUniformly : Obligations.UniformStoresPackUniformly := by
  intro s t hpack
  obtain rfl : s.packed = t := Host.Outcome.next.inj hpack
  refine ⟨fun hblack => ⟨?_, ?_⟩, fun haccent => ?_⟩
  · exact (planeA_of_uniform hblack).trans (bitpack_zeros _)
  · exact (planeB_of_uniform hblack).trans (bitpack_zeros _)
  · have hA := planeA_of_uniform haccent
    have hB := planeB_of_uniform haccent
    exact ⟨hA.trans hB.symm, fun h => hB.trans (bitpack_ones_of_whole h), fun h => hB.trans (bitpack_ones_of_rest h)⟩

/-- Settles O30: PACK is the write of `planeA` and `planeB`. -/
theorem packWritesOnlyThePlanes : Obligations.PackWritesOnlyThePlanes := fun s =>
  ⟨planeA s, planeB s, rfl, planeA_length s, planeB_length s⟩

/-- Settles O31: BLACK, ACCENT and every other byte. -/
theorem paletteEncoderTruthTable : Obligations.PaletteEncoderTruthTable := by
  intro v
  split
  next hblack => subst hblack; rfl
  next hblack =>
    have hA : encodeA v = true := encodeA_iff.mpr hblack
    split
    next haccent => rw [hA, encodeB_iff.mpr haccent]
    next haccent => rw [hA, Bool.eq_false_iff.mpr (mt encodeB_iff.mp haccent)]

/-- Settles O35: each stage is a new reading of the cells. -/
theorem gridStagesMoveTheCells : Obligations.GridStagesMoveTheCells := fun _ _ _ _ _ =>
  ⟨rfl, rfl, rfl, rfl, rfl, rfl, rfl, rfl, rfl⟩

/-- Settles O36: the two states have one stream of `W * H` pixels, and both planes are packed from it. -/
theorem packIsPure : Obligations.PackIsPure := by
  intro s t s' t' hw hh hvflip hhflip hrot hread hs ht
  obtain rfl : s.packed = s' := Host.Outcome.next.inj hs
  obtain rfl : t.packed = t' := Host.Outcome.next.inj ht
  have hcount : s.cellCount = t.cellCount := congrArg₂ (· * ·) hw hh
  have hstream : ∀ k, k < s.cellCount → pixelStream s k = pixelStream t k := fun k hk => by
    rw [pixelStream_eq_read, pixelStream_eq_read, ← hw, ← hh, ← hvflip, ← hhflip, ← hrot]
    exact hread _ (streamCell_lt _ _ _ hk)
  rw [packed_pa, packed_pb, packed_pa, packed_pb, planeA, planeA, planeB, planeB, ← hcount]
  exact ⟨bitpack_congr fun k hk => congrArg encodeA (hstream k hk), bitpack_congr fun k hk => congrArg encodeB (hstream k hk)⟩

end Sys2Proof.Machine

namespace Sys2Proof.Machine

/-! ## The LUT selector: the statement of 43_lut_selector.md -/

/-! ### `lutselFn`, case by case (R190) -/

theorem lutselFn_black (p : Params) (id : Option IdentityRecord) : lutselFn p .black id = .black := rfl

theorem lutselFn_yellow (p : Params) (id : Option IdentityRecord) : lutselFn p .yellow id = .yellow := rfl

theorem lutselFn_red_none (p : Params) : lutselFn p .red none = .red := rfl

theorem lutselFn_red_some (p : Params) (r : IdentityRecord) :
    lutselFn p .red (some r) = if upgrades p r then .redHt else .red := rfl

/-! ### When red is upgraded (R190, R191) -/

theorem upgrades_iff {p : Params} {r : IdentityRecord} :
    upgrades p r = true ↔ r.variantCode ∈ p.htVariants ∧ r.accentColorName = "red" := by
  rw [upgrades, Bool.and_eq_true, List.contains_iff_mem, beq_iff_eq]

theorem lutselFn_red_some_eq_redHt_iff {p : Params} {r : IdentityRecord} :
    lutselFn p .red (some r) = .redHt ↔ upgrades p r = true := by
  rw [lutselFn_red_some]
  split
  next h => exact iff_of_true rfl h
  next h => exact iff_of_false (by decide) h

theorem lutselFn_eq_redHt_iff {p : Params} {prof : Profile} {id : Option IdentityRecord} :
    lutselFn p prof id = .redHt ↔ prof = .red ∧ ∃ r, id = some r ∧ upgrades p r = true := by
  cases prof with
  | black => simp [lutselFn_black]
  | yellow => simp [lutselFn_yellow]
  | red =>
    cases id with
    | none => simp [lutselFn_red_none]
    | some r => simp [lutselFn_red_some_eq_redHt_iff]

theorem lutselFn_red_of_ne_redHt {p : Params} {id : Option IdentityRecord} (h : lutselFn p .red id ≠ .redHt) :
    lutselFn p .red id = .red := by
  cases id with
  | none => exact lutselFn_red_none p
  | some r => rw [lutselFn_red_some, if_neg (mt lutselFn_red_some_eq_redHt_iff.mpr h)]

/-- Settles O38: black and yellow always keep their name, and red keeps it where `upgrades` does not hold of a present record. -/
theorem lutselFunctionUpgradesOnlyRed : Obligations.LutselFunctionUpgradesOnlyRed := by
  intro p prof id
  refine ⟨?_, fun hne => ?_⟩
  · simp only [lutselFn_eq_redHt_iff, upgrades_iff]
  · cases prof with
    | black => exact lutselFn_black p id
    | yellow => exact lutselFn_yellow p id
    | red => exact lutselFn_red_of_ne_redHt hne

end Sys2Proof.Machine

namespace Sys2Proof.Machine

open Laws

/-! ## The sequencer: micro-operations, the register ROM, failures and the loop (44_sequencer.md R200 to R215)

What each micro-operation does is said once, by the environment's answer. What a failed event does, and which commands an entry may
send, is then one fact about the due event of any performed entry. The loop of R201 is an induction over the entries left, one
performed entry being one or two steps. -/

/-! ### Events as R12 writes them -/

/-- An emitted event is an event after which nothing else changed, with the next answer on it (R12). -/
theorem emit_eq_afterEvents (ev : Answer → Event) (s : State) : s.emit ev = s.afterEvents [ev (s.env.answer 0)] := by
  rw [State.emit, peek_eq_answer, next_eq_drop]
  rfl

/-! ### Where the instructions stand in the register ROM (R203) -/

/-- Every entry holds a frame, but for the eight of the micro-operations. -/
theorem romEntry_opcode_isSome (p : Params) (k : RomIndex) :
    (opcodeOf p.op (romEntry p k).instr).isSome = !([0, 1, 2, 3, 4, 6, 31, 32] : List RomIndex).contains k := by
  fin_cases k <;> rfl

/-- The entries that hold a frame are those the decoder knows the frame by. -/
theorem contains_entriesOf_romEntry (p : Params) (k : RomIndex) :
    (entriesOf (romEntry p k).instr).contains k = (opcodeOf p.op (romEntry p k).instr).isSome := by
  fin_cases k <;> rfl

/-- A frame stands at one of its own entries. -/
theorem mem_entriesOf_romEntry {p : Params} {k : RomIndex} {b : Byte} (h : opcodeOf p.op (romEntry p k).instr = some b) :
    k ∈ entriesOf (romEntry p k).instr := by
  rw [← List.contains_iff_mem, contains_entriesOf_romEntry, h]
  rfl

/-- A micro-operation stands only where no frame does. -/
theorem index_of_micro {p : Params} {k : RomIndex} {i : Instr} (hi : opcodeOf p.op i = none) (h : (romEntry p k).instr = i) :
    k ∈ ([0, 1, 2, 3, 4, 6, 31, 32] : List RomIndex) := by
  have hnone := romEntry_opcode_isSome p k
  rw [h, hi, eq_comm, Bool.not_eq_eq_eq_not] at hnone
  exact List.contains_iff_mem.mp hnone

theorem romEntry_acquire_iff {p : Params} {k : RomIndex} : (romEntry p k).instr = .acquire ↔ k = 0 := by
  refine ⟨fun h => ?_, fun h => h ▸ rfl⟩
  have hk := index_of_micro rfl h
  fin_cases hk <;> cases h
  rfl

theorem romEntry_rstline {p : Params} {k : RomIndex} {lvl : LineLevel} (h : (romEntry p k).instr = .rstline lvl) :
    k = 1 ∨ k = 3 := by
  have hk := index_of_micro rfl h
  fin_cases hk <;> cases h <;> decide

theorem romEntry_delay_iff {p : Params} {k : RomIndex} {ms : Nat} :
    (romEntry p k).instr = .delay ms ↔ (k = 2 ∨ k = 4) ∧ ms = 100 ∨ k = 31 ∧ ms = 50 := by
  constructor
  · intro h
    have hk := index_of_micro rfl h
    fin_cases hk <;> cases h <;> decide
  · rintro (⟨rfl | rfl, rfl⟩ | ⟨rfl, rfl⟩) <;> rfl

theorem romEntry_waitbusy_iff {p : Params} {k : RomIndex} {t : Nat} {cause : TimeoutCause} :
    (romEntry p k).instr = .waitbusy t cause ↔
      k = 6 ∧ t = 1000 ∧ cause = .softReset ∨ k = 32 ∧ t = p.tRefresh ∧ cause = .refresh := by
  constructor
  · intro h
    obtain ⟨rfl, rfl⟩ | ⟨rfl, rfl⟩ := romEntry_waitbusy h <;> cases h
    · exact .inl ⟨rfl, rfl, rfl⟩
    · exact .inr ⟨rfl, rfl, rfl⟩
  · rintro (⟨rfl, rfl, rfl⟩ | ⟨rfl, rfl, rfl⟩) <;> rfl

/-! ### The statements about the micro-operations and the register ROM (R203, R210 to R214) -/

/-- Settles O14: FRAME is `sendFrame`. -/
theorem frameSendsOrRaises : Obligations.FrameSendsOrRaises := by
  intro s op payload
  refine ⟨fun hf hp => ?_, fun hf hp => ?_, fun hf hcmd => ?_, fun hf hp hb => ?_⟩
  · subst hp
    exact congrArg _ (sendFrame_bare hf)
  · exact ⟨fun hb => congrArg _ (sendFrame_command hp hb hf), fun hb => congrArg _ (sendFrame_data hp hb hf)⟩
  · have hn : ¬(payload ≠ [] ∧ s.beat = .second) := fun ⟨hp, hb⟩ =>
      hcmd.elim hp fun hfirst => absurd (hfirst.symm.trans hb) (by decide)
    refine congrArg _ ((sendFrame_fails hf).trans ?_)
    rw [if_neg hn]
  · refine congrArg _ ((sendFrame_fails hf).trans ?_)
    rw [if_pos ⟨hp, hb⟩]

/-- Settles O16: the branches of ACQUIRE. -/
theorem acquireOpensTheTransportOnce : Obligations.AcquireOpensTheTransportOnce := by
  refine ⟨fun s => ⟨fun hi => congrArg _ (if_pos hi), fun hi hf hw => ?_, fun hi hf hw => ?_, fun hi hf => ?_⟩,
    fun p k => romEntry_acquire_iff⟩
  all_goals simp [exec, execAcquire, State.emitAcquire, emit_eq_afterEvents, peek_eq_answer, Answer.acquire, State.acquired, *]

/-- Settles O17: the two branches of RSTLINE. -/
theorem rstlineSetsTheLine : Obligations.RstlineSetsTheLine := by
  refine ⟨fun s lvl => ⟨fun hf => ?_, fun hf => ?_⟩, fun p => ⟨rfl, fun k lvl => romEntry_rstline⟩⟩
  all_goals simp [exec, execRstline, State.emitSetLine, emit_eq_afterEvents, peek_eq_answer, Answer.send, hf]

/-- Settles O18: DELAY computes. -/
theorem delayIsOnlyAnEvent : Obligations.DelayIsOnlyAnEvent :=
  ⟨fun _ _ => rfl, fun _ _ _ => romEntry_delay_iff⟩

/-- Settles O19: the branches of the two events of WAITBUSY. -/
theorem waitbusyFollowsTheBusyLine : Obligations.WaitbusyFollowsTheBusyLine := by
  refine ⟨fun s t cause => ⟨fun hb => ⟨fun hf => ?_, fun hf hl => ?_, fun hf hl => ?_⟩,
    fun hb => ⟨fun hf => ?_, fun hf he => ?_, fun hf he => ?_⟩⟩, fun p k t cause => romEntry_waitbusy_iff⟩
  all_goals simp [exec, execWaitbusy, checkBusy, awaitEdge, State.emitReadLine, State.emitWaitEdge, emit_eq_afterEvents,
    peek_eq_answer, Answer.read, Answer.wait, *]

/-- The pair of R251 that no arm matches. -/
theorem borderPattern_isSome_iff {k : PayloadParams} {b : Color} {prof : Profile} :
    (borderPattern k b prof).isSome = true ↔ ¬(b = .accent ∧ prof = .black) := by
  cases b <;> cases prof <;> simp [borderPattern]

/-- The condition of each entry, read in a state (R203). -/
theorem romEntry_holds_iff {p : Params} {k : RomIndex} {s : State} :
    (romEntry p k).cond.holds s = true ↔
      (k = 0 → s.init = false) ∧ (k = 17 → ¬(s.regs.border = .accent ∧ s.regs.profile = .black)) ∧
      (k = 18 → s.regs.profile = .yellow) ∧
      (k = 19 → s.regs.profile = .red ∧ (s.regs.w, s.regs.h) = s.params.redOverrideRes) ∧
      (k = 32 ∨ k = 33 → s.wait = true) := by
  rw [romEntry_cond_table]
  fin_cases k <;> simp [Condition.holds, matchedBorder, borderPattern_isSome_iff, redAtOverrideRes]

/-- Settles O45: the 34 entries, one by one. -/
theorem registerRomIsTheTable : Obligations.RegisterRomIsTheTable := by
  intro p k
  refine ⟨romEntry_index p k, ?_, ?_, fun s => romEntry_holds_iff⟩
  · fin_cases k <;> rfl
  · fin_cases k <;> rfl

/-! ### The due event of a performed entry (R207, R286) -/

/-- What the due event `ev` of an instruction does to `s`: it is appended; a command is the instruction's own; failed, it raises and
nothing else changes; and where the environment fails it, it is failed, unless it is a delay (R212, R286, R295). -/
structure DueEvent (i : Instr) (s : State) (ev : Event) (t : State) : Prop where
  tr : t.tr = s.tr ++ [ev]
  command : ∀ b r, ev = .cmd b r → opcodeOf s.params.op i = some b
  raised : ev.failed = true → t = (s.afterEvents [ev]).trap .transport
  attempted : (∀ ms, i ≠ .delay ms) → (s.env.answer 0).fails = true → ev.failed = true

/-- An event that failed, and raised. -/
theorem dueEvent_failed {i : Instr} {s : State} {ev : Event} (hc : ∀ b r, ev = .cmd b r → opcodeOf s.params.op i = some b)
    (hev : ev.failed = true) : DueEvent i s ev ((s.afterEvents [ev]).trap .transport) :=
  ⟨rfl, hc, fun _ => rfl, fun _ _ => hev⟩

/-- An event that the environment did not fail. -/
theorem dueEvent_granted {i : Instr} {s t : State} {ev : Event} (hc : ∀ b r, ev = .cmd b r → opcodeOf s.params.op i = some b)
    (hf : (s.env.answer 0).fails = false) (hev : ev.failed = false) (htr : t.tr = s.tr ++ [ev]) : DueEvent i s ev t :=
  ⟨htr, hc, fun h => absurd (hev.symm.trans h) (by decide), fun _ h => absurd (hf.symm.trans h) (by decide)⟩

theorem exec_acquire_dueEvent {s : State} (hi : s.init = false) :
    ∃ ev t, exec .acquire s = .next t ∧ DueEvent .acquire s ev t := by
  obtain ⟨-, hok, hwarn, hfail⟩ := acquireOpensTheTransportOnce.1 s
  cases hf : (s.env.answer 0).fails with
  | true => exact ⟨_, _, hfail hi hf, dueEvent_failed (by simp) rfl⟩
  | false =>
    cases hw : (s.env.answer 0).warn with
    | true => exact ⟨_, _, hwarn hi hf hw, dueEvent_granted (by simp) hf rfl rfl⟩
    | false => exact ⟨_, _, hok hi hf hw, dueEvent_granted (by simp) hf rfl rfl⟩

theorem exec_rstline_dueEvent (lvl : LineLevel) (s : State) :
    ∃ ev t, exec (.rstline lvl) s = .next t ∧ DueEvent (.rstline lvl) s ev t := by
  obtain ⟨hok, hfail⟩ := rstlineSetsTheLine.1 s lvl
  cases hf : (s.env.answer 0).fails with
  | true => exact ⟨_, _, hfail hf, dueEvent_failed (by simp) rfl⟩
  | false => exact ⟨_, _, hok hf, dueEvent_granted (by simp) hf rfl rfl⟩

theorem exec_delay_dueEvent (ms : Nat) (s : State) :
    ∃ ev t, exec (.delay ms) s = .next t ∧ DueEvent (.delay ms) s ev t :=
  ⟨.delay ms, _, rfl, rfl, by simp, by simp [Event.failed], fun h => absurd rfl (h ms)⟩

theorem exec_waitbusy_dueEvent (w : Nat) (cause : TimeoutCause) (s : State) :
    ∃ ev t, exec (.waitbusy w cause) s = .next t ∧ DueEvent (.waitbusy w cause) s ev t := by
  obtain ⟨hread, hwait⟩ := waitbusyFollowsTheBusyLine.1 s w cause
  cases hb : s.beat with
  | first =>
    obtain ⟨hfail, hready, hbusy⟩ := hread hb
    cases hf : (s.env.answer 0).fails with
    | true => exact ⟨_, _, hfail hf, dueEvent_failed (by simp) rfl⟩
    | false =>
      cases hl : (s.env.answer 0).level with
      | ready => exact ⟨_, _, hready hf hl, dueEvent_granted (by simp) hf rfl rfl⟩
      | busy => exact ⟨_, _, hbusy hf hl, dueEvent_granted (by simp) hf rfl rfl⟩
  | second =>
    obtain ⟨hfail, hedge, hnone⟩ := hwait hb
    cases hf : (s.env.answer 0).fails with
    | true => exact ⟨_, _, hfail hf, dueEvent_failed (by simp) rfl⟩
    | false =>
      cases he : (s.env.answer 0).edge with
      | true => exact ⟨_, _, hedge hf he, dueEvent_granted (by simp) hf rfl rfl⟩
      | false => exact ⟨_, _, hnone hf he, dueEvent_granted (by simp) hf rfl rfl⟩

/-- A frame: its command is its opcode (R214). -/
theorem exec_frame_dueEvent {i : Instr} {s : State} {b : Byte} {bs : List Byte} (hop : opcodeOf s.params.op i = some b)
    (hx : exec i s = .next (sendFrame b bs s)) : ∃ ev t, exec i s = .next t ∧ DueEvent i s ev t := by
  obtain ⟨hbare, hsends, hfailCmd, hfailData⟩ := frameSendsOrRaises s b bs
  have hsame : exec (.frame b bs) s = exec i s := hx.symm
  rw [hsame] at hbare hfailCmd hfailData
  have hcmd (r : SendReply) : ∀ c r', Event.cmd b r = .cmd c r' → opcodeOf s.params.op i = some c := by
    rintro c r' ⟨⟩
    exact hop
  cases hf : (s.env.answer 0).fails with
  | true =>
    by_cases hp : bs = []
    · exact ⟨_, _, hfailCmd hf (.inl hp), dueEvent_failed (hcmd _) rfl⟩
    · cases hb : s.beat with
      | first => exact ⟨_, _, hfailCmd hf (.inr hb), dueEvent_failed (hcmd _) rfl⟩
      | second => exact ⟨_, _, hfailData hf hp hb, dueEvent_failed (by simp) rfl⟩
  | false =>
    by_cases hp : bs = []
    · exact ⟨_, _, hbare hf hp, dueEvent_granted (hcmd _) hf rfl rfl⟩
    · obtain ⟨hcommand, hdata⟩ := hsends hf hp
      cases hb : s.beat with
      | first => exact ⟨_, _, hsame ▸ hcommand hb, dueEvent_granted (hcmd _) hf rfl rfl⟩
      | second => exact ⟨_, _, hsame ▸ hdata hb, dueEvent_granted (by simp) hf rfl rfl⟩

/-- Every performed entry of the register ROM answers a next state by its due event (R203). -/
theorem exec_romEntry_dueEvent {p : Params} {k : RomIndex} {s : State} (hc : (romEntry p k).cond.holds s = true) :
    ∃ ev t, exec (romEntry p k).instr s = .next t ∧ DueEvent (romEntry p k).instr s ev t := by
  by_cases hk : 1 ≤ k.val
  · obtain ⟨lvl, hi⟩ | ⟨ms, hi⟩ | ⟨w, c, hi⟩ | ⟨b, bs, hop, hpl⟩ := romEntry_kinds hk hc
    · exact hi ▸ exec_rstline_dueEvent lvl s
    · exact hi ▸ exec_delay_dueEvent ms s
    · exact hi ▸ exec_waitbusy_dueEvent w c s
    · exact exec_frame_dueEvent hop (exec_eq_sendFrame hop hpl (romEntry_cond p k ▸ hc))
  · obtain rfl : k = 0 := Fin.ext (by simp only [Fin.val_zero]; omega)
    exact exec_acquire_dueEvent ((romEntry_holds_iff.mp hc).1 rfl)

/-- The trap of a failed event ends the step: `STEP` does not advance (R295). -/
theorem goOn_of_trap (t : State) (c : Trap) : (t.trap c).goOn = t.trap c :=
  goOn_of_ended rfl

/-- A step in flight at a performed entry is the due event of the entry, in the state with `STATE` written, and going on (R201). -/
theorem step_dueEvent {s : State} (hi : s.inflight = true) (hc : s.fetch.cond.holds s = true) :
    ∃ ev t, step s = .next t.goOn ∧ DueEvent s.fetch.instr s.entered ev t := by
  obtain ⟨ev, t, hx, hdue⟩ := exec_romEntry_dueEvent (s := s.entered) ((holds_entered s s.fetch.cond).trans hc)
  exact ⟨ev, t, step_of_exec hi hc hx, hdue⟩

/-- The events of a step: the due event of a performed entry, and none in any other step (R7). -/
theorem mem_newEvents {s t : State} {ev : Event} (hstep : step s = .next t) (hev : ev ∈ newEvents s t) :
    s.inflight = true ∧ s.fetch.cond.holds s = true ∧ newEvents s t = [ev] ∧
      ∃ u, t = u.goOn ∧ DueEvent s.fetch.instr s.entered ev u := by
  have hmoved : t.tr ≠ s.tr := fun htr => by simp [newEvents, htr] at hev
  cases hi : s.inflight with
  | false => exact absurd ((eachStepInFlightIsOneEvent s t hstep).2 hi) hmoved
  | true =>
    cases hc : s.fetch.cond.holds s with
    | false =>
      obtain rfl : s.advance = t := Host.Outcome.next.inj (((stepRunsTheRomEntry s hi).2 hc).symm.trans hstep)
      exact absurd (advance_tr s) hmoved
    | true =>
      obtain ⟨ev', u, hnext, hdue⟩ := step_dueEvent hi hc
      obtain rfl : u.goOn = t := Host.Outcome.next.inj (hnext.symm.trans hstep)
      have hone : newEvents s u.goOn = [ev'] := by
        rw [newEvents, goOn_tr, hdue.tr]
        exact List.drop_left
      obtain rfl : ev = ev' := by simpa [hone] using hev
      exact ⟨rfl, rfl, hone, u, rfl, hdue⟩

/-- A command on the trace is the opcode of the frame at `STEP`, which with distinct opcodes is the frame of that opcode (R95). -/
theorem fetch_of_command {s t : State} {b : Byte} {i : Instr} {r : SendReply} (hd : opcodesDistinct s.params.op = true)
    (hrow : (b, i) ∈ opcodeMap s.params.op) (hat : ∀ entry, atEntry entry i = i) (hstep : step s = .next t)
    (hev : Event.cmd b r ∈ newEvents s t) :
    s.inflight = true ∧ s.fetch.cond.holds s = true ∧ s.step ∈ entriesOf i := by
  obtain ⟨hi, hc, -, u, -, hdue⟩ := mem_newEvents hstep hev
  have hop : opcodeOf s.params.op s.fetch.instr = some b := hdue.command b r rfl
  have hmem : s.step ∈ entriesOf s.fetch.instr := mem_entriesOf_romEntry hop
  have hdec : decodeOpcode s.params.op (some s.step) b = some s.fetch.instr :=
    decodeOpcode_atItsEntry _ _ _ _ hd hop hmem
  rw [decodeOpcode_row hd hrow, hat] at hdec
  rw [Option.some.inj hdec]
  exact ⟨hi, hc, hmem⟩

/-! ### The statements about failures and the commands of one place (R207, R215) -/

/-- Settles O47: the due event of any entry but a delay fails where the environment fails it, and a failed event raises. -/
theorem transportFailureEndsTheUpdate : Obligations.TransportFailureEndsTheUpdate := by
  intro s hi hc hne hf
  obtain ⟨ev, t, hstep, hdue⟩ := step_dueEvent hi hc
  have hev : ev.failed = true := hdue.attempted hne hf
  refine ⟨ev, hev, ?_⟩
  rw [hstep, hdue.raised hev, goOn_of_trap]
  rfl

/-- Settles O48: a step has one event, and a failed one raises. -/
theorem nothingFollowsAFailedEvent : Obligations.NothingFollowsAFailedEvent := by
  intro s t ev _ hstep hev hfailed
  obtain ⟨-, -, hone, u, rfl, hdue⟩ := mem_newEvents hstep hev
  rw [hone, hdue.raised hfailed, goOn_of_trap]
  exact ⟨rfl, rfl, rfl, rfl, rfl⟩

/-- Settles O55: DEEP_SLEEP and ACTIVATE each stand at one entry. -/
theorem sleepAndTriggerHaveOnePlace : Obligations.SleepAndTriggerHaveOnePlace := by
  intro s t r hd hstep
  refine ⟨fun hev => ?_, fun hev => ?_⟩
  · have hrow : (Config.opSleep, .deepSleep) ∈ opcodeMap s.params.op := List.mem_of_getElem? (i := 20) rfl
    obtain ⟨hi, hc, hk⟩ := fetch_of_command hd hrow (fun _ => rfl) hstep hev
    have hlast : s.step = 33 := List.mem_singleton.mp hk
    obtain ⟨-, -, -, -, hwait⟩ := romEntry_holds_iff.mp hc
    exact ⟨hi, hlast, hwait (.inr hlast)⟩
  · have hrow : (s.params.op.activate, .activate) ∈ opcodeMap s.params.op := List.mem_of_getElem? (i := 19) rfl
    obtain ⟨hi, -, hk⟩ := fetch_of_command hd hrow (fun _ => rfl) hstep hev
    exact ⟨hi, List.mem_singleton.mp hk⟩

/-! ### A busy wait in flight (R213, R284) -/

/-- A wait that finds BUSYLVL: the edge is due, and `STEP` stays (R213). -/
theorem step_waitbusy_busy {w : Nat} {c : TimeoutCause} {s : State} (hs : Performs (.waitbusy w c) s) (hb : s.beat = .first)
    (hf : (s.env.answer 0).fails = false) (hl : (s.env.answer 0).level = .busy) :
    step s = .next (s.entered.afterEvents [.readLine (.level .busy)]).secondDue := by
  obtain ⟨-, -, hbusy⟩ := (waitbusyFollowsTheBusyLine.1 s.entered w c).1 hb
  rw [step_of_exec hs.inflight hs.holds (hs.instr.symm ▸ hbusy hf hl), goOn_of_second rfl]

/-- A wait that times out (R284). -/
theorem step_waitbusy_timeout {w : Nat} {c : TimeoutCause} {s : State} (hs : Performs (.waitbusy w c) s) (hb : s.beat = .second)
    (hf : (s.env.answer 0).fails = false) (he : (s.env.answer 0).edge = false) :
    step s = .next ((s.entered.afterEvents [.waitEdge w (.edge false)]).trap (.timeout c)) := by
  obtain ⟨-, -, hnone⟩ := (waitbusyFollowsTheBusyLine.1 s.entered w c).2 hb
  rw [step_of_exec hs.inflight hs.holds (hs.instr.symm ▸ hnone hf he), goOn_of_trap]

/-- Entry 6 is the wait after the soft reset (R213). -/
theorem fetch_softResetWait {s : State} (hk : s.step = 6) : s.fetch = ⟨6, .softResetting, .waitbusy 1000 .softReset, .always⟩ := by
  rw [State.fetch, hk]
  rfl

/-- Entry 32 is the wait after the trigger (R213). -/
theorem fetch_refreshWait {s : State} (hk : s.step = 32) :
    s.fetch = ⟨32, .busy, .waitbusy s.params.tRefresh .refresh, .waitSet⟩ := by
  rw [State.fetch, hk]
  rfl

/-- Settles O46: both waits, at the event that is due. -/
theorem timeoutEndsTheUpdate : Obligations.TimeoutEndsTheUpdate := by
  intro s hi hf
  have softReset (hk : s.step = 6) : Performs (.waitbusy 1000 .softReset) s := by
    have hfetch := fetch_softResetWait hk
    exact ⟨hi, by rw [hfetch]; rfl, by rw [hfetch]⟩
  have refresh (hk : s.step = 32) (hw : s.wait = true) : Performs (.waitbusy s.params.tRefresh .refresh) s := by
    have hfetch := fetch_refreshWait hk
    exact ⟨hi, by rw [hfetch]; exact hw, by rw [hfetch]⟩
  refine ⟨fun hb hl => ⟨fun hk => ?_, fun hk hw => ?_⟩, fun hb he => ⟨fun hk => ?_, fun hk hw => ?_⟩⟩
  · rw [step_waitbusy_busy (softReset hk) hb hf hl, State.entered, fetch_softResetWait hk]
    rfl
  · rw [step_waitbusy_busy (refresh hk hw) hb hf hl, State.entered, fetch_refreshWait hk]
    rfl
  · rw [step_waitbusy_timeout (softReset hk) hb hf he, State.trap, ← hk]
    rfl
  · rw [step_waitbusy_timeout (refresh hk hw) hb hf he, State.trap, ← hk]
    rfl

/-! ### One entry of the loop is one or two steps (R7, R201) -/

/-- An event after which a second one is due did not raise: the program counter stands (R7). -/
theorem EntryEffect.kept_of_second {i : Instr} {s t : State} (h : EntryEffect i s t) (hi : s.inflight = true)
    (hb : t.beat = .second) : t.inflight = true ∧ t.state = s.state ∧ t.step = s.step := by
  obtain ⟨-, -, hsame⟩ := h.beat hb
  obtain ⟨hstate, hstep, hinfl, -⟩ | ⟨c, -, -, hover, -⟩ := h.ends
  · exact ⟨hinfl.trans hi, hstate, hstep⟩
  · exact absurd (hover.symm.trans (hsame.trans hi)) (by decide)

/-- Where an entry that is in flight afterwards leaves `STEP` (R295). -/
theorem EntryEffect.step_of_inflight {i : Instr} {s t : State} (h : EntryEffect i s t) (ht : t.inflight = true) :
    t.step = s.step := by
  obtain ⟨-, hstep, -⟩ | ⟨c, -, -, hover, -⟩ := h.ends
  · exact hstep
  · exact absurd (hover.symm.trans ht) (by decide)

/-- No second event follows a second event (R7). -/
theorem EntryEffect.first_of_second {i : Instr} {s t : State} (h : EntryEffect i s t) (hb : s.beat = .second) :
    t.beat = .first := by
  cases ht : t.beat with
  | first => rfl
  | second => exact absurd ((h.beat ht).1.symm.trans hb) (by decide)

/-- The first event of two leaves the condition of its entry: ACQUIRE, which alone reads what it writes, has one event (R210). -/
theorem holds_of_second {p : Params} {k : RomIndex} {s t : State} (h : EntryEffect (romEntry p k).instr s t)
    (hb : t.beat = .second) (hc : (romEntry p k).cond.holds s = true) : (romEntry p k).cond.holds t = true := by
  obtain ⟨-, hsecond, -⟩ := h.beat hb
  have hk : k ≠ 0 := by
    rintro rfl
    cases hsecond
  rw [romEntry_holds_iff] at hc ⊢
  rw [h.regs, h.params, h.wait]
  exact ⟨fun h0 => absurd h0 hk, hc.2⟩

/-- The due event of the entry at `STEP`, performed with `STATE` written (R201). -/
theorem exec_fetch {s : State} (hc : s.fetch.cond.holds s = true) :
    ∃ t, exec s.fetch.instr s.entered = .next t ∧ EntryEffect s.fetch.instr s.entered t :=
  exec_romEntry s.params s.step ((holds_entered s s.fetch.cond).trans hc)

/-- The entry at `STEP` performed whole: its events, one step for each, and then what follows the last of them (R7, R201). -/
theorem runSteps_perform {s : State} (hi : s.inflight = true) (hc : s.fetch.cond.holds s = true) :
    ∃ n ≤ 2, ∃ u, perform s.fetch.instr s.entered = u ∧ runSteps n s = .next u.goOn ∧ u.beat = .first ∧
      u.params = s.params ∧ (u.inflight = true → u.step = s.step) := by
  obtain ⟨t, hx, heff⟩ := exec_fetch hc
  have hstep : step s = .next t.goOn := step_of_exec hi hc hx
  have hone : once s.fetch.instr s.entered = t := once_of_exec hx
  cases hb : t.beat with
  | first =>
    refine ⟨1, by decide, t, ?_, runSteps_one hstep, hb, heff.params, heff.step_of_inflight⟩
    rw [perform, hone, if_neg (by simp [hb])]
  | second =>
    obtain ⟨hti, htstate, htstep⟩ := heff.kept_of_second hi hb
    have hfetch : t.fetch = s.fetch := by
      rw [State.fetch, htstep, heff.params]
      rfl
    have hentered : t.entered = t := by
      rw [State.entered, hfetch, ← show t.state = s.fetch.state from htstate]
    have htc : t.fetch.cond.holds t = true := hfetch ▸ holds_of_second heff hb ((holds_entered s s.fetch.cond).trans hc)
    obtain ⟨u, hx', heff'⟩ := exec_fetch htc
    have hstep' : step t = .next u.goOn := step_of_exec hti htc hx'
    rw [hfetch, hentered] at hx' heff'
    rw [goOn_of_second hb] at hstep
    refine ⟨2, le_rfl, u, ?_, (runSteps_succ 1 hstep).trans (runSteps_one hstep'), heff'.first_of_second hb,
      heff'.params.trans heff.params, fun hu => (heff'.step_of_inflight hu).trans htstep⟩
    rw [perform, hone, if_pos hb, once_of_exec hx']

/-! ### The loop over the entries left (R201) -/

/-- The skip of the loop does not read `STEP`. -/
theorem skipTo_withStep (es : List RomEntry) (s : State) (k : RomIndex) : skipTo es { s with step := k } = skipTo es s := by
  induction es with
  | nil => rfl
  | cons e es ih =>
    have hc : e.cond.holds { s with step := k } = e.cond.holds s :=
      holds_congr (s := s) (t := { s with step := k }) rfl rfl rfl rfl _
    rw [skipTo, skipTo, hc, ih]

/-- The skip stays at an entry that is performed (R201). -/
theorem skipTo_of_holds {s : State} (hc : s.fetch.cond.holds s = true) (es : List RomEntry) : skipTo (s.fetch :: es) s = s := by
  rw [skipTo, if_pos hc, State.fetch, romEntry_index]

/-- The skip passes over any other. -/
theorem skipTo_of_not_holds {e : RomEntry} {s : State} (hc : ¬e.cond.holds s = true) (es : List RomEntry) :
    skipTo (e :: es) s = skipTo es s := by
  rw [skipTo, if_neg hc]

/-- The loop at an entry that is performed and raises (R201, R295). -/
theorem updateLoop_of_raised {s u : State} (hc : s.fetch.cond.holds s = true) (hp : perform s.fetch.instr s.entered = u)
    (hu : u.inflight = false) (es : List RomEntry) : updateLoop (s.fetch :: es) s = u := by
  subst hp
  rw [updateLoop, if_pos hc]
  exact if_neg (Bool.eq_false_iff.mp hu)

/-- The loop at an entry that is performed and does not raise (R201). -/
theorem updateLoop_of_performed {s u : State} (hc : s.fetch.cond.holds s = true) (hp : perform s.fetch.instr s.entered = u)
    (hu : u.inflight = true) (es : List RomEntry) :
    updateLoop (s.fetch :: es) s = updateLoop es { u with step := s.step + 1 } := by
  subst hp
  rw [updateLoop, if_pos hc]
  exact if_pos hu

/-- The loop at an entry that is not performed (R201). -/
theorem updateLoop_of_not_holds {e : RomEntry} {s : State} (hc : ¬e.cond.holds s = true) (es : List RomEntry) :
    updateLoop (e :: es) s = updateLoop es { s with step := s.step + 1 } := by
  rw [updateLoop, if_neg hc]

/-- From the state the skip leaves, the steps are the loop of R201 over the same entries, at most two for each. -/
theorem runSteps_updateLoop (es : List RomEntry) {k : Nat} {s : State} (hes : (romReg s.params).drop k = es)
    (hk : k < 34 → s.step.val = k) (hi : s.inflight = true) :
    ∃ n ≤ 2 * es.length, runSteps n (skipTo es s) = .next (updateLoop es s) ∧ (updateLoop es s).inflight = false := by
  induction es generalizing k s with
  | nil => exact ⟨0, le_rfl, rfl, rfl⟩
  | cons e es ih =>
    obtain ⟨hlt, rfl, htail⟩ := romEntry_of_drop hes
    obtain rfl := hk hlt
    have hnext : s.step.val + 1 < 34 → (s.step + 1).val = s.step.val + 1 := Fin.val_add_one_of_lt'
    change ∃ n ≤ 2 * (es.length + 1), runSteps n (skipTo (s.fetch :: es) s) = .next (updateLoop (s.fetch :: es) s) ∧
      (updateLoop (s.fetch :: es) s).inflight = false
    by_cases hc : s.fetch.cond.holds s = true
    · obtain ⟨n, hn, u, hperform, hrun, hb, hparams, hstep⟩ := runSteps_perform hi hc
      rw [skipTo_of_holds hc]
      cases hu : u.inflight with
      | false =>
        rw [updateLoop_of_raised hc hperform hu]
        rw [goOn_of_ended hu] at hrun
        exact ⟨n, by omega, hrun, hu⟩
      | true =>
        rw [updateLoop_of_performed hc hperform hu]
        rw [goOn_of_first hu hb, State.advance, hparams, hstep hu, htail] at hrun
        obtain ⟨m, hm, hloop, hend⟩ := ih (s := { u with step := s.step + 1 }) (hparams ▸ htail) hnext hu
        rw [skipTo_withStep] at hloop
        exact ⟨n + m, by omega, (runSteps_add hrun).trans hloop, hend⟩
    · rw [skipTo_of_not_holds hc, updateLoop_of_not_holds hc]
      obtain ⟨n, hn, hloop, hend⟩ := ih (s := { s with step := s.step + 1 }) htail hnext hi
      rw [skipTo_withStep] at hloop
      exact ⟨n, by omega, hloop, hend⟩

/-- Settles O56: at a performed entry the skip is done already, and at any other the first step is the skip. -/
theorem stepsRefineTheUpdateLoop : Obligations.StepsRefineTheUpdateLoop := by
  intro s hi
  have hk := s.step.isLt
  have hentries : s.entriesLeft = s.fetch :: (romReg s.params).drop (s.step.val + 1) := List.drop_eq_getElem_cons hk
  cases hc : s.fetch.cond.holds s with
  | true =>
    obtain ⟨n, hn, hrun, hend⟩ := runSteps_updateLoop s.entriesLeft rfl (fun _ => rfl) hi
    rw [hentries, skipTo_of_holds hc, ← hentries] at hrun
    refine ⟨n, hn.trans ?_, hrun, hend⟩
    rw [State.entriesLeft, List.length_drop, romReg_length]
  | false =>
    have hfirst : step s = .next s.advance := (stepRunsTheRomEntry s hi).2 hc
    obtain ⟨n, hn, hrun, hend⟩ :=
      runSteps_updateLoop (s := { s with step := s.step + 1 }) _ rfl Fin.val_add_one_of_lt' hi
    rw [skipTo_withStep] at hrun
    rw [hentries, updateLoop_of_not_holds (by simp [hc])]
    refine ⟨n + 1, ?_, (runSteps_succ n hfirst).trans hrun, hend⟩
    rw [List.length_drop, romReg_length] at hn
    omega

end Sys2Proof.Machine

namespace Sys2Proof.Machine

/-! ## The frames of the register ROM (45_register_rom.md R240 to R265) -/

/-- A frame whose payload has a first byte sends its command and that payload (R214). -/
theorem sendsFrame_cons {i : Instr} {op b : Byte} {bs : List Byte} {s : State} (hg : s.env.Grants 1)
    (hx : exec i s = .next (sendFrame op (b :: bs) s)) : SendsFrame i op (b :: bs) s :=
  sendsFrame_of_exec hg (List.cons_ne_nil b bs) hx

/-- A frame with a vector of three bytes as its payload sends its command and those bytes (R97, R214). -/
theorem sendsFrame_triple {i : Instr} {op : Byte} {v : Vector Byte 3} {s : State} (hg : s.env.Grants 1)
    (hx : exec i s = .next (sendFrame op v.toList s)) : SendsFrame i op v.toList s :=
  sendsFrame_of_exec hg (List.ne_nil_of_length_pos (by simp)) hx

/-- Where its condition does not hold, a frame sends nothing and changes nothing (R251, R252, R253, R265). -/
theorem exec_frame_of_not_holds {i : Instr} {s : State} {b : Byte} (hop : opcodeOf s.params.op i = some b)
    (hc : ¬(condOf i).holds s = true) : exec i s = .next s := by
  cases i
  case borderMatch => simp [exec, execBorderMatch, Option.not_isSome_iff_eq_none.mp hc]
  case sourceVoltY => exact congrArg _ (if_neg (mt beq_iff_eq.mpr hc))
  case sourceVoltR => exact congrArg _ (if_neg hc)
  case deepSleep => exact congrArg _ (if_neg hc)
  all_goals cases hop
  all_goals exact absurd rfl hc

/-- BORDER_MATCH sends the pattern of the arm that matches (R251). -/
theorem borderMatch_sendsFrame {s : State} {pattern : Byte} (hg : s.env.Grants 1)
    (hp : borderPattern s.params.k s.regs.border s.regs.profile = some pattern) :
    SendsFrame .borderMatch s.params.op.border [pattern] s :=
  sendsFrame_cons hg (exec_borderMatch_arm hp)

/-- Profile red at `RED_OVERRIDE_RES`, as R253 writes it. -/
theorem redAtOverrideRes_iff {s : State} :
    redAtOverrideRes s = true ↔ s.regs.profile = .red ∧ (s.regs.w, s.regs.h) = s.params.redOverrideRes := by
  simp only [redAtOverrideRes, Bool.and_eq_true, beq_iff_eq]

/-- Settles O5: each is a frame with its constant as payload. -/
theorem constantFramesSendTheirConstants : Obligations.ConstantFramesSendTheirConstants := fun _ hg =>
  ⟨sendsFrame_cons hg rfl, sendsFrame_cons hg rfl, sendsFrame_cons hg rfl, sendsFrame_triple hg rfl, sendsFrame_cons hg rfl,
    sendsFrame_cons hg rfl, sendsFrame_cons hg rfl, sendsFrame_cons hg rfl, sendsFrame_cons hg rfl, sendsFrame_cons hg rfl,
    sendsFrame_cons hg rfl, sendsFrame_cons hg rfl⟩

/-- Settles O6: both are frames with an empty payload. -/
theorem bareCommandsSendNoData : Obligations.BareCommandsSendNoData := fun _ hg =>
  ⟨exec_bareFrame hg rfl rfl, exec_bareFrame hg rfl rfl⟩

/-- Settles O10: the value of `borderPattern` at each pair of R251. -/
theorem borderMatchFollowsItsArms : Obligations.BorderMatchFollowsItsArms := by
  intro s hg
  refine ⟨fun hb => ?_, fun hb hp => ?_, fun hb hp => ?_, fun hb => ?_, fun hb hp => ?_⟩
  · exact borderMatch_sendsFrame hg (by rw [hb, borderPattern])
  · exact borderMatch_sendsFrame hg (by rw [hb, hp, borderPattern])
  · exact borderMatch_sendsFrame hg (by rw [hb, hp, borderPattern])
  · exact borderMatch_sendsFrame hg (by rw [hb, borderPattern])
  · exact exec_frame_of_not_holds rfl fun hc => borderPattern_isSome_iff.mp hc ⟨hb, hp⟩

/-- Settles O11: each override is a frame where its condition holds, and nothing where it does not. -/
theorem sourceVoltageOverridesAreConditional : Obligations.SourceVoltageOverridesAreConditional := by
  intro s hg
  refine ⟨fun hy => ?_, fun hy => ?_, fun hr hres => ?_, fun hr => ?_⟩
  · exact sendsFrame_triple hg (exec_eq_sendFrame rfl rfl (beq_iff_eq.mpr hy))
  · exact exec_frame_of_not_holds rfl (mt beq_iff_eq.mp hy)
  · exact sendsFrame_triple hg (exec_eq_sendFrame rfl rfl (redAtOverrideRes_iff.mpr ⟨hr, hres⟩))
  · exact exec_frame_of_not_holds rfl (mt redAtOverrideRes_iff.mp hr)

/-- Settles O12: DEEP_SLEEP is a frame where `WAIT` = 1, and nothing where it is 0. -/
theorem deepSleepIsSentOnlyWhenWaiting : Obligations.DeepSleepIsSentOnlyWhenWaiting := fun _ hg =>
  ⟨fun hw => sendsFrame_cons hg (exec_eq_sendFrame rfl rfl hw),
    fun hw => exec_frame_of_not_holds rfl (Bool.eq_false_iff.mp hw)⟩

end Sys2Proof.Machine

namespace Sys2Proof.Machine

/-! ## LUTSEL as an instruction (43_lut_selector.md R190) -/

/-- Settles O39: LUTSEL has no gate and no event, so the write of its register is the whole of the instruction. -/
theorem lutselWritesOnlyItsRegister : Obligations.LutselWritesOnlyItsRegister := fun _ _ _ => rfl

end Sys2Proof.Machine
